-- ==== Sys2Proof/Word.lean ====
section
/-! DEFINITION. The three widths the machine computes with (00_scope.md R5). -/

namespace Sys2Proof

/-- One byte: the unit of every bus transaction (R5, R65). -/
abbrev Byte := BitVec 8

/-- Sixteen bits: the storage of A, X, Y, SP, PC and DP (R5). -/
abbrev Word := BitVec 16

/-- A 24-bit bus address, bank in bits 23 to 16 (R5, R39). Sums of addresses wrap modulo $1000000. -/
abbrev Addr := BitVec 24

end Sys2Proof
end

