-- ==== Sys2Proof/Machine/Bits.lean ====
section
/-! DEFINITION. Byte order, bit fields, widths and sign extension (00_scope.md R9, 20_memory.md R63). -/

namespace Sys2Proof.Machine

/-- `v[7:0]`. -/
def loByte (v : Word) : Byte := v.extractLsb' 0 8

/-- `v[15:8]`. -/
def hiByte (v : Word) : Byte := v.extractLsb' 8 8

/-- `(hi << 8) | lo`: the value of two bytes, the low one at the lower address (R63). -/
def mkWord (hi lo : Byte) : Word := hi ++ lo

/-- `bank:offset`, the 24-bit address `(bank << 16) | offset` (R9). -/
def bankAddr (bank : Byte) (off : Word) : Addr := bank ++ off

/-- `$00:offset`: an address in bank 0 (R61). -/
def bank0 (off : Word) : Addr := bankAddr 0x00#8 off

/-- The offset part `a[15:0]` of a 24-bit operand (R92). -/
def addrOffset (a : Addr) : Word := a.extractLsb' 0 16

/-- The bank part `a[23:16]` of a 24-bit operand (R92). -/
def addrBank (a : Addr) : Byte := a.extractLsb' 16 8

/-- An unsigned byte as sixteen bits (`zext`, R9). -/
def zextByte (b : Byte) : Word := b.setWidth 16

/-- `sext_8` as sixteen bits (R9). -/
def sextByte (b : Byte) : Word := b.signExtend 16

/-- `v & mask(w8)`: the low byte when the width flag is 1, all sixteen bits otherwise (R43). -/
def maskW (w8 : Bool) (v : Word) : Word := if w8 then v &&& 0x00FF#16 else v

/-- `mask(w8)` as a number (R43). -/
def maskNat (w8 : Bool) : Nat := if w8 then 0xFF else 0xFFFF

/-- `(v & sign(w8)) != 0`: the top bit of the relevant width (R42, R43). -/
def signW (w8 : Bool) (v : Word) : Bool := if w8 then v.getLsbD 7 else v.getLsbD 15

/-- The word with high byte $01 and the low byte of `v`: `$0100 | (v & $FF)` (R23). -/
def pageOne (v : Word) : Word := mkWord 0x01#8 (loByte v)

end Sys2Proof.Machine
end

