-- ==== Sys2Proof/Config.lean ====
section
/-! DEFINITION. What is fixed for the machine and is neither state nor an instruction's meaning. -/

namespace Sys2Proof.Config

/-- The number of byte addresses of the one address space (R60). -/
def addressCount : Nat := 0x1000000

/-- What a byte of the host's memory reads as while nothing has been stored there.
DESIGN CHOICE, unsafe (log 2): the spec leaves read data to the host (R6, U6). $00 is what the spec's
own test vectors assume of a byte they do not list. -/
def unwrittenByte : Byte := 0x00#8

/-- The default of the parameter STEP_START_POLL (R6, D2). -/
def stepStartPollDefault : Bool := true

end Sys2Proof.Config
end

