-- ==== Sys2Proof/Machine/State.lean ====
section
/-! DEFINITION. Everything the machine holds (10_state.md), as plain data, the state after reset (R46) and the
reasons a step could stop. -/

namespace Sys2Proof.Machine

/-- One entry of a step's record (00_scope.md R10, R11): the three bus transactions, each one cycle, and the
interrupt poll, which takes none. An idle cycle has no address and no data (R85). -/
inductive Event where
  /-- `BusRead(a)`, answered with `v`. -/
  | read (a : Addr) (v : Byte)
  /-- `BusWrite(a, v)`. -/
  | write (a : Addr) (v : Byte)
  /-- `BusIdle(waiting)`; `waiting` is the host-skippable mark of a parked core. -/
  | idle (waiting : Bool)
  /-- `Poll()`, with the value `intWanted` takes (R33). -/
  | poll (wanted : Bool)
deriving DecidableEq, Repr

/-- What the host does inside one bus transaction (R6, D18): the byte it answers a read with where that is not
what its memory holds (a device, another bus master), whether it calls `Nmi()`, and the level it leaves the IRQ
line at if it calls `SetIrq`. Several `Nmi()` count as one (R31), and only the last `SetIrq` level is seen (R32).
`Reset` is never called inside a transaction (D18). -/
structure HostTick where
  answer : Option Byte
  nmi    : Bool
  irq    : Option Bool
deriving DecidableEq, Repr

/-- A transaction in which the host only answers from its memory. -/
def HostTick.quiet : HostTick := ⟨none, false, none⟩

/-- The state of the core (R20 to R36, R45), the memory of the host it is attached to (R60), and three fields of
the model's own: `hostTicks` (log 3), `trace` (log 4) and `stepStartPoll` (log 5). -/
structure State where
  /-- A, the accumulator; its upper byte is B (R20). -/
  a : Word
  /-- X, an index register (R21). -/
  x : Word
  /-- Y, an index register (R22). -/
  y : Word
  /-- SP, the stack pointer, into bank 0 (R23). -/
  sp : Word
  /-- PC, the program counter within bank K (R24). -/
  pc : Word
  /-- DP, the direct-page base (R25). -/
  dp : Word
  /-- K, the program bank (R26). -/
  k : Byte
  /-- DB, the data bank (R27). -/
  db : Byte
  /-- N, negative (R28). -/
  fN : Bool
  /-- V, overflow (R28). -/
  fV : Bool
  /-- M, accumulator and memory width: 1 means 8 bits (R28). -/
  fM : Bool
  /-- The X flag, index width: 1 means 8 bits (R28). -/
  fX : Bool
  /-- D, decimal mode (R28). -/
  fD : Bool
  /-- I, IRQ disable (R28). -/
  fI : Bool
  /-- Z, zero (R28). -/
  fZ : Bool
  /-- C, carry (R28). -/
  fC : Bool
  /-- E, emulation mode, outside the flag byte (R30). -/
  fE : Bool
  /-- The NMI latch (R31). -/
  nmiWanted : Bool
  /-- The level of the IRQ line (R32). -/
  irqWanted : Bool
  /-- The result of the last poll (R33). -/
  intWanted : Bool
  /-- A reset was requested and its sequence has not run (R34). -/
  resetWanted : Bool
  /-- Parked by WAI (R35). -/
  waiting : Bool
  /-- Parked by STP (R36). -/
  stopped : Bool
  /-- The host's memory: address and byte, in the canonical form of `memWf`. -/
  mem : List Host.Cell
  /-- What the host does inside each coming bus transaction, the next one first; past the end of the list it is
  quiet. -/
  hostTicks : List HostTick
  /-- The events of the step in progress or just finished, oldest first. -/
  trace : List Event
  /-- The parameter STEP_START_POLL (R6, D2); no step and no reset changes it. -/
  stepStartPoll : Bool
deriving DecidableEq, Repr

/-- The reasons a step could fault: none. "A step has no fault outcome and no refusal outcome" (R8), so the type is
empty and nothing can raise a fault. Unsafe if the hardware had a fault after all (log 17). -/
inductive Fault where
deriving DecidableEq, Repr

/-- The reasons a step could be refused. -/
inductive Refusal where
  /-- Raised by an arm of `exec` whose instruction has no meaning yet; no arm raises it. Safe: the model stops. -/
  | notModelled (mnemonic : String)
deriving DecidableEq, Repr

/-- The machine right after reset: the values of R46 after a hard reset and its sequence. PC is the word at the
reset vector, which is $0000 in a memory that lists nothing (log 2, log 6). -/
def State.reset : State where
  a := 0x0000#16
  x := 0x0000#16
  y := 0x0000#16
  sp := 0x01FD#16
  pc := 0x0000#16
  dp := 0x0000#16
  k := 0x00#8
  db := 0x00#8
  fN := false
  fV := false
  fM := true
  fX := true
  fD := false
  fI := true
  fZ := false
  fC := false
  fE := true
  nmiWanted := false
  irqWanted := false
  intWanted := false
  resetWanted := false
  waiting := false
  stopped := false
  mem := []
  hostTicks := []
  trace := []
  stepStartPoll := Config.stepStartPollDefault

end Sys2Proof.Machine
end

