-- ==== Sys2Proof/Machine/Flags.lean ====
section
/-! DEFINITION. The flag byte, the setters of N and Z, and every computation of a result with its flags
(10_state.md R40 to R43, 41_alu_read.md, 42_store_rmw.md). -/

namespace Sys2Proof.Machine

/-- What a step or an instruction answers. -/
abbrev Result := Host.Outcome State Fault Refusal

/-- `GetFlags()`: N V M X D I Z C in bits 7 to 0 (R29, R40). -/
def getFlags (s : State) : Byte :=
  BitVec.ofBool s.fN ++ BitVec.ofBool s.fV ++ BitVec.ofBool s.fM ++ BitVec.ofBool s.fX ++
  BitVec.ofBool s.fD ++ BitVec.ofBool s.fI ++ BitVec.ofBool s.fZ ++ BitVec.ofBool s.fC

/-- `SetFlags(b)`, the one way the flag byte is loaded (R41): with E = 1, M and flag X become 1 whatever the byte
says and SP goes back into page $01; if flag X is then 1, the upper bytes of X and Y are cleared. -/
def setFlags (b : Byte) (s : State) : State :=
  { s with
    fN := b.getLsbD 7
    fV := b.getLsbD 6
    fM := s.fE || b.getLsbD 5
    fX := s.fE || b.getLsbD 4
    fD := b.getLsbD 3
    fI := b.getLsbD 2
    fZ := b.getLsbD 1
    fC := b.getLsbD 0
    sp := if s.fE then pageOne s.sp else s.sp
    x := maskW (s.fE || b.getLsbD 4) s.x
    y := maskW (s.fE || b.getLsbD 4) s.y }

/-- Is a value zero at the width (the Z of R42)? -/
def isZeroW (w8 : Bool) (v : Word) : Bool := maskW w8 v == 0#16

/-- `SetZN(v, w8)` (R42): Z from the low 8 or 16 bits, N from the top bit of the width. -/
def setZN (v : Word) (w8 : Bool) (s : State) : State :=
  { s with fZ := isZeroW w8 v, fN := signW w8 v }

/-- `Aw`: the accumulator at the width of M (R20, R43). -/
def accW (s : State) : Word := maskW s.fM s.a

/-- `A` with its low byte replaced when M = 1 and all of it when M = 0 (R20). -/
def mergeAcc (w8 : Bool) (a v : Word) : Word := if w8 then mkWord (hiByte a) (loByte v) else v

/-- `Aw <- v` (R20): B is preserved when M = 1. -/
def setAccW (v : Word) (s : State) : State := { s with a := mergeAcc s.fM s.a v }

/-- What ADC and SBC compute: the new Aw, V and C. -/
structure SumResult where
  value : Word
  overflow : Bool
  carry : Bool
deriving DecidableEq, Repr

/-- The V formula of R134: `((~(a ^ op)) & (a ^ r) & sign) != 0`. -/
def overflowW (w8 : Bool) (a op r : Word) : Bool := signW w8 (~~~(a ^^^ op) &&& (a ^^^ r))

/-- Binary ADC (R134), `a` and `op` at the width: `r = a + op + C`, C is `r > mask`, the value `r & mask`. -/
def adcBinary (w8 : Bool) (a op : Word) (cin : Bool) : SumResult :=
  let r := a.toNat + op.toNat + cin.toNat
  { value := maskW w8 (BitVec.ofNat 16 r)
    overflow := overflowW w8 a op (BitVec.ofNat 16 r)
    carry := decide (maskNat w8 < r) }

/-- Nibble `k` of a value (R135). -/
def nibble (k : Nat) (v : Word) : Nat := v.toNat / 16 ^ k % 16

/-- The nibble numbers of a width, low to high (R135: two nibbles for M = 1, four for M = 0). -/
def nibbles (w8 : Bool) : List Nat := if w8 then [0, 1] else [0, 1, 2, 3]

/-- The number of the top nibble of a width. -/
def topNibble (w8 : Bool) : Nat := if w8 then 1 else 3

/-- The running values of a decimal addition or subtraction: the carry or borrow into the next nibble, the
corrected nibbles so far, and V once the top nibble is done. -/
structure DecimalAcc where
  link : Bool
  res : Nat
  overflow : Bool
deriving DecidableEq, Repr

/-- One nibble of decimal ADC (R135): V is taken from the top nibble before it is corrected; a sum above 9 is
incremented by 6 in its nibble and carries. -/
def adcNibble (w8 : Bool) (a op : Word) (acc : DecimalAcc) (k : Nat) : DecimalAcc :=
  let s := nibble k a + nibble k op + acc.link.toNat
  { link := decide (9 < s)
    res := acc.res + (if 9 < s then (s + 6) % 16 else s) * 16 ^ k
    overflow :=
      if k = topNibble w8 then overflowW w8 a op (BitVec.ofNat 16 (acc.res + s % 16 * 16 ^ k)) else acc.overflow }

/-- Decimal ADC (R135). -/
def adcDecimal (w8 : Bool) (a op : Word) (cin : Bool) : SumResult :=
  let r := (nibbles w8).foldl (adcNibble w8 a op) ⟨cin, 0, false⟩
  ⟨BitVec.ofNat 16 r.res, r.overflow, r.link⟩

/-- ADC in the mode D selects (R134). -/
def adc (decimal w8 : Bool) (a op : Word) (cin : Bool) : SumResult :=
  if decimal then adcDecimal w8 a op cin else adcBinary w8 a op cin

/-- `(~v) & mask` (R136). -/
def notW (w8 : Bool) (v : Word) : Word := maskW w8 (~~~v)

/-- One nibble of decimal SBC (R137): a nibble that underflows is decremented by 6 and borrows. -/
def sbcNibble (w8 : Bool) (a op : Word) (acc : DecimalAcc) (k : Nat) : DecimalAcc :=
  let d : Int := (nibble k a : Int) - nibble k op - acc.link.toNat
  { link := decide (d < 0)
    res := acc.res + (if d < 0 then ((d - 6) % 16).toNat else d.toNat) * 16 ^ k
    overflow :=
      if k = topNibble w8 then
        overflowW w8 a (notW w8 op) (BitVec.ofNat 16 (acc.res + (d % 16).toNat * 16 ^ k))
      else acc.overflow }

/-- Decimal SBC (R137): the borrow in is 1 - C, and C out is the absence of a borrow out of the top nibble. -/
def sbcDecimal (w8 : Bool) (a op : Word) (cin : Bool) : SumResult :=
  let r := (nibbles w8).foldl (sbcNibble w8 a op) ⟨!cin, 0, false⟩
  ⟨BitVec.ofNat 16 r.res, r.overflow, !r.link⟩

/-- SBC in the mode D selects (R136): in binary, the addition of the complemented operand. -/
def sbc (decimal w8 : Bool) (a op : Word) (cin : Bool) : SumResult :=
  if decimal then sbcDecimal w8 a op cin else adcBinary w8 a (notW w8 op) cin

/-- Write the result of ADC or SBC: Aw, V, C, and N and Z of the final Aw at the width of M (R134, R136). -/
def putSum (r : SumResult) (s : State) : State :=
  setZN r.value s.fM (setAccW r.value { s with fV := r.overflow, fC := r.carry })

/-- The difference a compare judges, `r = left + (~v & mask) + 1` (R138). -/
def compareSum (w8 : Bool) (left v : Word) : Nat := left.toNat + (notW w8 v).toNat + 1

/-- CMP, CPX and CPY (R138 to R140): C when there is no borrow, N and Z of the difference at the width. -/
def compareFlags (w8 : Bool) (left v : Word) (s : State) : State :=
  let r := compareSum w8 left v
  setZN (maskW w8 (BitVec.ofNat 16 r)) w8 { s with fC := decide (maskNat w8 < r) }

/-! The functions `f` of the read-modify-write instructions (R156 to R163): from the operand at the width of M to
the result, with the flags set on the way. -/

/-- ASL (R156): the top bit goes to C, 0 comes in. -/
def rmwAsl (v : Word) (s : State) : Word × State :=
  let r := maskW s.fM (v <<< 1)
  (r, setZN r s.fM { s with fC := signW s.fM v })

/-- LSR (R157): bit 0 goes to C, 0 comes in. -/
def rmwLsr (v : Word) (s : State) : Word × State :=
  let r := v >>> 1
  (r, setZN r s.fM { s with fC := v.getLsbD 0 })

/-- ROL (R158): old C comes in at bit 0, the top bit goes to C. -/
def rmwRol (v : Word) (s : State) : Word × State :=
  let r := maskW s.fM (v <<< 1 ||| BitVec.ofNat 16 s.fC.toNat)
  (r, setZN r s.fM { s with fC := signW s.fM v })

/-- The word with only the top bit of the width equal to `c` (R159: `C << (7 if M = 1 else 15)`). -/
def topBit (w8 c : Bool) : Word := if c then (if w8 then 0x0080#16 else 0x8000#16) else 0x0000#16

/-- ROR (R159): old C comes in at the top bit, bit 0 goes to C. -/
def rmwRor (v : Word) (s : State) : Word × State :=
  let r := v >>> 1 ||| topBit s.fM s.fC
  (r, setZN r s.fM { s with fC := v.getLsbD 0 })

/-- INC (R160). -/
def rmwInc (v : Word) (s : State) : Word × State :=
  let r := maskW s.fM (v + 1)
  (r, setZN r s.fM s)

/-- DEC (R161). -/
def rmwDec (v : Word) (s : State) : Word × State :=
  let r := maskW s.fM (v - 1)
  (r, setZN r s.fM s)

/-- TSB (R162): Z from `Aw & v`, then `v | Aw`. -/
def rmwTsb (v : Word) (s : State) : Word × State :=
  (v ||| accW s, { s with fZ := (accW s &&& v) == 0#16 })

/-- TRB (R163): Z from `Aw & v`, then `v & ~Aw`. -/
def rmwTrb (v : Word) (s : State) : Word × State :=
  (maskW s.fM (v &&& ~~~(accW s)), { s with fZ := (accW s &&& v) == 0#16 })

end Sys2Proof.Machine
end

