-- ==== Sys2Proof/Machine/Memory.lean ====
section
/-! DEFINITION. The host's memory as a list of (address, byte) pairs in one canonical form (20_memory.md R60):
addresses strictly rising and below $1000000, and no pair that holds what an unlisted address reads as. -/

namespace Sys2Proof.Machine

/-- The byte at an address: the listed one, or what an unlisted address reads as (log 2). -/
def memRead (m : List Host.Cell) (a : Nat) : Byte :=
  match m with
  | [] => Config.unwrittenByte
  | (b, v) :: rest => if a = b then v else memRead rest a

/-- Put a pair before a list, unless it says what an unlisted address reads as anyway. -/
def memCons (a : Nat) (v : Byte) (rest : List Host.Cell) : List Host.Cell :=
  if v = Config.unwrittenByte then rest else (a, v) :: rest

/-- Store a byte at an address, keeping the canonical form. -/
def memWrite (m : List Host.Cell) (a : Nat) (v : Byte) : List Host.Cell :=
  match m with
  | [] => memCons a v []
  | (b, u) :: rest =>
    if a < b then memCons a v ((b, u) :: rest)
    else if a = b then memCons a v rest
    else (b, u) :: memWrite rest a v

/-- The canonical form of the tail of a memory whose addresses must be at least `lo`. -/
def memWfFrom (lo : Nat) (m : List Host.Cell) : Bool :=
  match m with
  | [] => true
  | (a, v) :: rest =>
    decide (lo ≤ a) && decide (a < Config.addressCount) && decide (v ≠ Config.unwrittenByte) && memWfFrom (a + 1) rest

/-- The memory has its canonical form. -/
def memWf (m : List Host.Cell) : Bool := memWfFrom 0 m

end Sys2Proof.Machine
end

