-- ==== Sys2Proof/Machine/Ops.lean ====
section
/-! DEFINITION. The bus sequencer's helpers (00_scope.md R11, 20_memory.md R70 to R80), the stack, the vectors,
entering and leaving an interrupt or exception (45_control_flow.md R281, R284, 60_exceptions.md R322), and the
reset sequence (70_reset_and_hazards.md R352). -/

namespace Sys2Proof.Machine

/-! ### Bus cycles and polls -/

/-- What the host does inside the `n`-th bus transaction from now (0 is the next one). -/
def tickAt (s : State) (n : Nat) : HostTick := s.hostTicks.getD n HostTick.quiet

/-- What a read of `a` is answered with, if it is the `n`-th transaction from now and memory does not change
before it (R6 HostRead): the host's own answer, or the byte its memory holds. -/
def answerAt (s : State) (n : Nat) (a : Addr) : Byte := (tickAt s n).answer.getD (memRead s.mem a.toNat)

/-- One bus cycle (R10): it is recorded, and the host acts on the request latches inside it (R6, R31, R32). -/
def cycle (e : Event) (s : State) : State :=
  { s with
    trace := s.trace ++ [e]
    nmiWanted := s.nmiWanted || (tickAt s 0).nmi
    irqWanted := (tickAt s 0).irq.getD s.irqWanted
    hostTicks := s.hostTicks.tail }

/-- `BusRead(a)`: the host's answer, and the state after the cycle (R11). -/
def busRead (a : Addr) (s : State) : Byte × State :=
  let v := answerAt s 0 a
  (v, cycle (.read a v) s)

/-- `BusWrite(a, b)` (R11): the host's memory takes the byte (log 1). -/
def busWrite (a : Addr) (b : Byte) (s : State) : State :=
  cycle (.write a b) { s with mem := memWrite s.mem a.toNat b }

/-- `Idle()`: one internal cycle (R85). -/
def idle (s : State) : State := cycle (.idle false) s

/-- `IdleWait()`: one internal cycle marked host-skippable (R85). -/
def idleWait (s : State) : State := cycle (.idle true) s

/-- The value of a poll now: `nmiWanted | (irqWanted & ~I)` (R33). -/
def pollValue (s : State) : Bool := s.nmiWanted || (s.irqWanted && !s.fI)

/-- `Poll()` (R33); it takes no bus cycle (R87). -/
def poll (s : State) : State :=
  { s with intWanted := pollValue s, trace := s.trace ++ [.poll (pollValue s)] }

/-- `if p then Poll()`. -/
def pollIf (p : Bool) (s : State) : State := if p then poll s else s

/-! ### Instruction fetch -/

/-- `K:PC`, the address of the next instruction byte (R24, R26). -/
def pcAddr (s : State) : Addr := bankAddr s.k s.pc

/-- A fetch whose byte is known: the read cycle at `K:PC` answered with `b`, and PC advanced inside its bank
(R70, R24). The step reads an instruction's bytes as the bus will answer them (`peekBytes`), so `b` is the byte
the bus gives. -/
def fetchByte (b : Byte) (s : State) : State :=
  let s := cycle (.read (pcAddr s) b) s
  { s with pc := s.pc + 1 }

/-- `FetchWord(p)` of a known word: low byte, the poll if asked for, high byte (R73). -/
def fetchWord (w : Word) (p : Bool) (s : State) : State :=
  fetchByte (hiByte w) (pollIf p (fetchByte (loByte w) s))

/-- The byte a fetch at `K:PC` gives when the instruction has already pushed bytes (R103): the instruction's own
byte `b`, unless one of the addresses it has just written is `K:PC`, when memory has the new byte (R83; log 7). -/
def lateByte (written : List Addr) (b : Byte) (s : State) : Byte :=
  if written.contains (pcAddr s) && (tickAt s 0).answer.isNone then memRead s.mem (pcAddr s).toNat else b

/-! ### Sixteen-bit accesses -/

/-- `ReadWord(lo, hi, p)`: low, the poll if asked for, high (R71). -/
def readWord (lo hi : Addr) (p : Bool) (s : State) : Word × State :=
  let l := busRead lo s
  let h := busRead hi (pollIf p l.2)
  (mkWord h.1 l.1, h.2)

/-- `WriteWord(lo, hi, v, rev, p)`: high then low when reversed, else low then high, the poll between (R72). -/
def writeWord (lo hi : Addr) (v : Word) (rev p : Bool) (s : State) : State :=
  if rev then busWrite lo (loByte v) (pollIf p (busWrite hi (hiByte v) s))
  else busWrite hi (hiByte v) (pollIf p (busWrite lo (loByte v) s))

/-! ### The stack -/

/-- A new value of SP as this machine keeps it: inside page $01 when E = 1 (R23, R37, D22). -/
def coerceSp (e : Bool) (v : Word) : Word := if e then pageOne v else v

/-- SP after a push. -/
def spDown (s : State) : Word := coerceSp s.fE (s.sp - 1)

/-- SP after a pull's increment. -/
def spUp (s : State) : Word := coerceSp s.fE (s.sp + 1)

/-- `PushByte(b)`: write at `$00:SP`, then decrement (R74). -/
def pushByte (b : Byte) (s : State) : State :=
  let s := busWrite (bank0 s.sp) b s
  { s with sp := spDown s }

/-- `PullByte()`: increment, then read at `$00:SP` (R75). -/
def pullByte (s : State) : Byte × State :=
  let s := { s with sp := spUp s }
  busRead (bank0 s.sp) s

/-- `PushWord(v, p)`: high byte first (R76). -/
def pushWord (v : Word) (p : Bool) (s : State) : State :=
  pushByte (loByte v) (pollIf p (pushByte (hiByte v) s))

/-- `PullWord(p)`: low byte first (R77). -/
def pullWord (p : Bool) (s : State) : Word × State :=
  let l := pullByte s
  let h := pullByte (pollIf p l.2)
  (mkWord h.1 l.1, h.2)

/-! ### Vectors (R79, R314) -/

/-- The events that have a vector the core reads (R79, R310). ABORT is never serviced (R316). -/
inductive VectorEvent where
  | cop
  | brk
  | nmi
  | irq
  | reset
deriving DecidableEq, Repr

/-- The vector of an event, a location in bank 0, for emulation mode (`e`) or native mode (R79). -/
def vectorOf : VectorEvent → Bool → Word
  | .cop, e => if e then 0xFFF4#16 else 0xFFE4#16
  | .brk, e => if e then 0xFFFE#16 else 0xFFE6#16
  | .nmi, e => if e then 0xFFFA#16 else 0xFFEA#16
  | .irq, e => if e then 0xFFFE#16 else 0xFFEE#16
  | .reset, _ => 0xFFFC#16

/-- `PC <- ReadWord($00:v, $00:(v + 1), p)`. -/
def loadVector (v : Word) (p : Bool) (s : State) : State :=
  let r := readWord (bank0 v) (bank0 (v + 1)) p s
  { r.2 with pc := r.1 }

/-! ### Interrupts and exceptions -/

/-- Taking an exception, the part all four share (R284, R322, R324): push K (native mode only), PC and a flag
byte, then I <- 1, D <- 0, K <- 0. -/
def enterHandler (flags : Byte) (s : State) : State :=
  let s := if s.fE then s else pushByte s.k s
  let s := pushWord s.pc false s
  let s := pushByte flags s
  { s with fI := true, fD := false, k := 0x00#8 }

/-- `SoftInt`, the common sequence of BRK and COP (R284), from after the opcode fetch: the signature byte is
fetched and dropped, the flag byte is pushed as GetFlags gives it, and the one poll is between the vector reads. -/
def softInt (ev : VectorEvent) (sig : Byte) (s : State) : State :=
  let s := fetchByte sig s
  let s := enterHandler (getFlags s) s
  loadVector (vectorOf ev s.fE) true s

/-- The flag byte a hardware interrupt pushes: bit 4 cleared when E = 1 (R322, D4). -/
def interruptFlags (s : State) : Byte := if s.fE then getFlags s &&& 0xEF#8 else getFlags s

/-- `DoInterrupt()` (R322), from after the dummy read: the vector is chosen after the pushes by `nmiWanted`
(R323), and an NMI entry clears `nmiWanted`. -/
def doInterrupt (s : State) : State :=
  let s := idle s
  let s := enterHandler (interruptFlags s) s
  let s := { s with intWanted := false }
  let isNmi := s.nmiWanted
  let s := loadVector (vectorOf (if isNmi then .nmi else .irq) s.fE) false s
  { s with nmiWanted := s.nmiWanted && !isNmi }

/-- Returning from an interrupt (R281), from after the opcode fetch: the flag byte through SetFlags, PC, and in
native mode K. -/
def returnFromInterrupt (s : State) : State :=
  let f := pullByte (idle (idle s))
  let s := setFlags f.1 f.2
  if s.fE then
    let p := pullWord true s
    { p.2 with pc := p.1 }
  else
    let p := pullWord false s
    let b := pullByte (poll { p.2 with pc := p.1 })
    { b.2 with k := b.1 }

/-! ### Reset -/

/-- One dummy stack read of the reset sequence, in page $01 (R352, D3). -/
def dummyStackRead (s : State) : State :=
  let s := (busRead (bank0 (pageOne s.sp)) s).2
  { s with sp := s.sp - 1 }

/-- The reset sequence (R352). -/
def resetSequence (s : State) : State :=
  let s := idle (busRead (pcAddr s) s).2
  let s := dummyStackRead (dummyStackRead (dummyStackRead s))
  let s := { s with sp := pageOne s.sp, fE := true, fI := true, fD := false }
  let s := { setFlags (getFlags s) s with k := 0x00#8 }
  let s := loadVector (vectorOf .reset s.fE) false s
  { s with resetWanted := false }

end Sys2Proof.Machine
end

