-- ==== Sys2Proof/Syntax.lean ====
section
/-! DEFINITION. The instructions: one constructor for each of the 256 rows of spec/opcode_table.json
(30_encoding.md R96), the 92 mnemonics, the seven formats of R91 and the operand forms of
40_addressing_modes.md. A constructor's argument is the operand as R92 assembles it; the constructor's
docstring gives opcode, syntax, the rule of its meaning and the rule of its operand form. -/

namespace Sys2Proof

/-- The fifteen calculators that return the address pair of an operand in memory (R112 to R126), with
the operand bytes each fetches. -/
inductive MemOperand where
  /-- Direct page `dp` (R112). -/
  | dp (d : Byte)
  /-- Direct page indexed by X, `dp,X` (R113). -/
  | dpx (d : Byte)
  /-- Direct page indexed by Y, `dp,Y` (R114). -/
  | dpy (d : Byte)
  /-- Direct page indirect `(dp)` (R115). -/
  | idp (d : Byte)
  /-- Direct page indexed indirect `(dp,X)` (R116). -/
  | idx (d : Byte)
  /-- Direct page indirect indexed `(dp),Y` (R117). -/
  | idy (d : Byte)
  /-- Direct page indirect long `[dp]` (R118). -/
  | idl (d : Byte)
  /-- Direct page indirect long indexed `[dp],Y` (R119). -/
  | ily (d : Byte)
  /-- Stack relative `sr,S` (R123). -/
  | sr (d : Byte)
  /-- Stack relative indirect indexed `(sr,S),Y` (R124). -/
  | isy (d : Byte)
  /-- Absolute `abs` (R120). -/
  | abs (a : Word)
  /-- Absolute indexed by X, `abs,X` (R121). -/
  | abx (a : Word)
  /-- Absolute indexed by Y, `abs,Y` (R122). -/
  | aby (a : Word)
  /-- Absolute long `long` (R125). -/
  | abl (a : Addr)
  /-- Absolute long indexed by X, `long,X` (R126). -/
  | alx (a : Addr)
deriving DecidableEq, Repr

/-- A data operand: an immediate of the width the instruction's flag gives (R127), or a place in memory. -/
inductive Operand where
  | imm (c : Word)
  | mem (o : MemOperand)
deriving DecidableEq, Repr

/-- The seven instruction formats (R91). -/
inductive Format where
  /-- Opcode only. -/
  | f1
  /-- Opcode and one byte. -/
  | f2
  /-- Opcode and a 16-bit operand. -/
  | f3
  /-- Opcode and a 24-bit operand. -/
  | f4
  /-- Opcode and an immediate of the width of flag M. -/
  | fm
  /-- Opcode and an immediate of the width of flag X. -/
  | fx
  /-- Opcode, destination bank, source bank. -/
  | fb
deriving DecidableEq, Repr

/-- The 92 mnemonics of the opcode map (R96). -/
inductive Mnemonic where
  | brk | ora | cop | tsb | asl | php | phd | bpl | trb | clc | inc | tcs | jsr | and | jsl | bit
  | rol | plp | pld | bmi | sec | dec | tsc | rti | eor | wdm | mvp | lsr | pha | phk | jmp | bvc
  | mvn | cli | phy | tcd | jml | rts | adc | per | stz | ror | pla | rtl | bvs | sei | ply | tdc
  | bra | sta | brl | sty | stx | dey | txa | phb | bcc | tya | txs | txy | ldy | lda | ldx | tay
  | tax | plb | bcs | clv | tsx | tyx | cpy | cmp | rep | iny | dex | wai | bne | pei | cld | phx
  | stp | cpx | sbc | sep | inx | nop | xba | beq | pea | sed | plx | xce
deriving DecidableEq, Repr

/-- The 256 instructions. The argument of an immediate whose width follows a flag (formats FM and FX) is
sixteen bits; at the 8-bit width its high byte is 0 (`Instr.wf`). The rows without an operand stand last
(Lean compiles an argument only of the first 244 constructors of a type). -/
inductive Instr where
  /-- $00 `BRK #sig` (R282, R128). -/
  | brk (sig : Byte)
  /-- $01 `ORA (dp,X)` (R131, R116). -/
  | oraIdx (d : Byte)
  /-- $02 `COP #sig` (R283, R128). -/
  | cop (sig : Byte)
  /-- $03 `ORA sr,S` (R131, R123). -/
  | oraSr (d : Byte)
  /-- $04 `TSB dp` (R162, R112). -/
  | tsbDp (d : Byte)
  /-- $05 `ORA dp` (R131, R112). -/
  | oraDp (d : Byte)
  /-- $06 `ASL dp` (R156, R112). -/
  | aslDp (d : Byte)
  /-- $07 `ORA [dp]` (R131, R118). -/
  | oraIdl (d : Byte)
  /-- $09 `ORA #const` (R131, R127). -/
  | oraImm (c : Word)
  /-- $0C `TSB abs` (R162, R120). -/
  | tsbAbs (a : Word)
  /-- $0D `ORA abs` (R131, R120). -/
  | oraAbs (a : Word)
  /-- $0E `ASL abs` (R156, R120). -/
  | aslAbs (a : Word)
  /-- $0F `ORA long` (R131, R125). -/
  | oraAbl (a : Addr)
  /-- $10 `BPL rel8` (R261, R128). -/
  | bpl (disp : Byte)
  /-- $11 `ORA (dp),Y` (R131, R117). -/
  | oraIdy (d : Byte)
  /-- $12 `ORA (dp)` (R131, R115). -/
  | oraIdp (d : Byte)
  /-- $13 `ORA (sr,S),Y` (R131, R124). -/
  | oraIsy (d : Byte)
  /-- $14 `TRB dp` (R163, R112). -/
  | trbDp (d : Byte)
  /-- $15 `ORA dp,X` (R131, R113). -/
  | oraDpx (d : Byte)
  /-- $16 `ASL dp,X` (R156, R113). -/
  | aslDpx (d : Byte)
  /-- $17 `ORA [dp],Y` (R131, R119). -/
  | oraIly (d : Byte)
  /-- $19 `ORA abs,Y` (R131, R122). -/
  | oraAby (a : Word)
  /-- $1C `TRB abs` (R163, R120). -/
  | trbAbs (a : Word)
  /-- $1D `ORA abs,X` (R131, R121). -/
  | oraAbx (a : Word)
  /-- $1E `ASL abs,X` (R156, R121). -/
  | aslAbx (a : Word)
  /-- $1F `ORA long,X` (R131, R126). -/
  | oraAlx (a : Addr)
  /-- $20 `JSR abs` (R276, R128). -/
  | jsrAbs (a : Word)
  /-- $21 `AND (dp,X)` (R132, R116). -/
  | andIdx (d : Byte)
  /-- $22 `JSL long` (R278, R128). -/
  | jsl (a : Addr)
  /-- $23 `AND sr,S` (R132, R123). -/
  | andSr (d : Byte)
  /-- $24 `BIT dp` (R141, R112). -/
  | bitDp (d : Byte)
  /-- $25 `AND dp` (R132, R112). -/
  | andDp (d : Byte)
  /-- $26 `ROL dp` (R158, R112). -/
  | rolDp (d : Byte)
  /-- $27 `AND [dp]` (R132, R118). -/
  | andIdl (d : Byte)
  /-- $29 `AND #const` (R132, R127). -/
  | andImm (c : Word)
  /-- $2C `BIT abs` (R141, R120). -/
  | bitAbs (a : Word)
  /-- $2D `AND abs` (R132, R120). -/
  | andAbs (a : Word)
  /-- $2E `ROL abs` (R158, R120). -/
  | rolAbs (a : Word)
  /-- $2F `AND long` (R132, R125). -/
  | andAbl (a : Addr)
  /-- $30 `BMI rel8` (R262, R128). -/
  | bmi (disp : Byte)
  /-- $31 `AND (dp),Y` (R132, R117). -/
  | andIdy (d : Byte)
  /-- $32 `AND (dp)` (R132, R115). -/
  | andIdp (d : Byte)
  /-- $33 `AND (sr,S),Y` (R132, R124). -/
  | andIsy (d : Byte)
  /-- $34 `BIT dp,X` (R141, R113). -/
  | bitDpx (d : Byte)
  /-- $35 `AND dp,X` (R132, R113). -/
  | andDpx (d : Byte)
  /-- $36 `ROL dp,X` (R158, R113). -/
  | rolDpx (d : Byte)
  /-- $37 `AND [dp],Y` (R132, R119). -/
  | andIly (d : Byte)
  /-- $39 `AND abs,Y` (R132, R122). -/
  | andAby (a : Word)
  /-- $3C `BIT abs,X` (R141, R121). -/
  | bitAbx (a : Word)
  /-- $3D `AND abs,X` (R132, R121). -/
  | andAbx (a : Word)
  /-- $3E `ROL abs,X` (R158, R121). -/
  | rolAbx (a : Word)
  /-- $3F `AND long,X` (R132, R126). -/
  | andAlx (a : Addr)
  /-- $41 `EOR (dp,X)` (R133, R116). -/
  | eorIdx (d : Byte)
  /-- $42 `WDM #sig` (R207, R128). -/
  | wdm (sig : Byte)
  /-- $43 `EOR sr,S` (R133, R123). -/
  | eorSr (d : Byte)
  /-- $44 `MVP src,dst` (R301, R128). -/
  | mvp (dst : Byte) (src : Byte)
  /-- $45 `EOR dp` (R133, R112). -/
  | eorDp (d : Byte)
  /-- $46 `LSR dp` (R157, R112). -/
  | lsrDp (d : Byte)
  /-- $47 `EOR [dp]` (R133, R118). -/
  | eorIdl (d : Byte)
  /-- $49 `EOR #const` (R133, R127). -/
  | eorImm (c : Word)
  /-- $4C `JMP abs` (R271, R128). -/
  | jmpAbs (a : Word)
  /-- $4D `EOR abs` (R133, R120). -/
  | eorAbs (a : Word)
  /-- $4E `LSR abs` (R157, R120). -/
  | lsrAbs (a : Word)
  /-- $4F `EOR long` (R133, R125). -/
  | eorAbl (a : Addr)
  /-- $50 `BVC rel8` (R263, R128). -/
  | bvc (disp : Byte)
  /-- $51 `EOR (dp),Y` (R133, R117). -/
  | eorIdy (d : Byte)
  /-- $52 `EOR (dp)` (R133, R115). -/
  | eorIdp (d : Byte)
  /-- $53 `EOR (sr,S),Y` (R133, R124). -/
  | eorIsy (d : Byte)
  /-- $54 `MVN src,dst` (R300, R128). -/
  | mvn (dst : Byte) (src : Byte)
  /-- $55 `EOR dp,X` (R133, R113). -/
  | eorDpx (d : Byte)
  /-- $56 `LSR dp,X` (R157, R113). -/
  | lsrDpx (d : Byte)
  /-- $57 `EOR [dp],Y` (R133, R119). -/
  | eorIly (d : Byte)
  /-- $59 `EOR abs,Y` (R133, R122). -/
  | eorAby (a : Word)
  /-- $5C `JML long` (R275, R128). -/
  | jmlLong (a : Addr)
  /-- $5D `EOR abs,X` (R133, R121). -/
  | eorAbx (a : Word)
  /-- $5E `LSR abs,X` (R157, R121). -/
  | lsrAbx (a : Word)
  /-- $5F `EOR long,X` (R133, R126). -/
  | eorAlx (a : Addr)
  /-- $61 `ADC (dp,X)` (R134, R116). -/
  | adcIdx (d : Byte)
  /-- $62 `PER rel16` (R246, R128). -/
  | per (disp : Word)
  /-- $63 `ADC sr,S` (R134, R123). -/
  | adcSr (d : Byte)
  /-- $64 `STZ dp` (R154, R112). -/
  | stzDp (d : Byte)
  /-- $65 `ADC dp` (R134, R112). -/
  | adcDp (d : Byte)
  /-- $66 `ROR dp` (R159, R112). -/
  | rorDp (d : Byte)
  /-- $67 `ADC [dp]` (R134, R118). -/
  | adcIdl (d : Byte)
  /-- $69 `ADC #const` (R134, R127). -/
  | adcImm (c : Word)
  /-- $6C `JMP (abs)` (R272, R128). -/
  | jmpInd (a : Word)
  /-- $6D `ADC abs` (R134, R120). -/
  | adcAbs (a : Word)
  /-- $6E `ROR abs` (R159, R120). -/
  | rorAbs (a : Word)
  /-- $6F `ADC long` (R134, R125). -/
  | adcAbl (a : Addr)
  /-- $70 `BVS rel8` (R264, R128). -/
  | bvs (disp : Byte)
  /-- $71 `ADC (dp),Y` (R134, R117). -/
  | adcIdy (d : Byte)
  /-- $72 `ADC (dp)` (R134, R115). -/
  | adcIdp (d : Byte)
  /-- $73 `ADC (sr,S),Y` (R134, R124). -/
  | adcIsy (d : Byte)
  /-- $74 `STZ dp,X` (R154, R113). -/
  | stzDpx (d : Byte)
  /-- $75 `ADC dp,X` (R134, R113). -/
  | adcDpx (d : Byte)
  /-- $76 `ROR dp,X` (R159, R113). -/
  | rorDpx (d : Byte)
  /-- $77 `ADC [dp],Y` (R134, R119). -/
  | adcIly (d : Byte)
  /-- $79 `ADC abs,Y` (R134, R122). -/
  | adcAby (a : Word)
  /-- $7C `JMP (abs,X)` (R273, R128). -/
  | jmpIax (a : Word)
  /-- $7D `ADC abs,X` (R134, R121). -/
  | adcAbx (a : Word)
  /-- $7E `ROR abs,X` (R159, R121). -/
  | rorAbx (a : Word)
  /-- $7F `ADC long,X` (R134, R126). -/
  | adcAlx (a : Addr)
  /-- $80 `BRA rel8` (R269, R128). -/
  | bra (disp : Byte)
  /-- $81 `STA (dp,X)` (R151, R116). -/
  | staIdx (d : Byte)
  /-- $82 `BRL rel16` (R270, R128). -/
  | brl (disp : Word)
  /-- $83 `STA sr,S` (R151, R123). -/
  | staSr (d : Byte)
  /-- $84 `STY dp` (R153, R112). -/
  | styDp (d : Byte)
  /-- $85 `STA dp` (R151, R112). -/
  | staDp (d : Byte)
  /-- $86 `STX dp` (R152, R112). -/
  | stxDp (d : Byte)
  /-- $87 `STA [dp]` (R151, R118). -/
  | staIdl (d : Byte)
  /-- $89 `BIT #const` (R141, R127). -/
  | bitImm (c : Word)
  /-- $8C `STY abs` (R153, R120). -/
  | styAbs (a : Word)
  /-- $8D `STA abs` (R151, R120). -/
  | staAbs (a : Word)
  /-- $8E `STX abs` (R152, R120). -/
  | stxAbs (a : Word)
  /-- $8F `STA long` (R151, R125). -/
  | staAbl (a : Addr)
  /-- $90 `BCC rel8` (R265, R128). -/
  | bcc (disp : Byte)
  /-- $91 `STA (dp),Y` (R151, R117). -/
  | staIdy (d : Byte)
  /-- $92 `STA (dp)` (R151, R115). -/
  | staIdp (d : Byte)
  /-- $93 `STA (sr,S),Y` (R151, R124). -/
  | staIsy (d : Byte)
  /-- $94 `STY dp,X` (R153, R113). -/
  | styDpx (d : Byte)
  /-- $95 `STA dp,X` (R151, R113). -/
  | staDpx (d : Byte)
  /-- $96 `STX dp,Y` (R152, R114). -/
  | stxDpy (d : Byte)
  /-- $97 `STA [dp],Y` (R151, R119). -/
  | staIly (d : Byte)
  /-- $99 `STA abs,Y` (R151, R122). -/
  | staAby (a : Word)
  /-- $9C `STZ abs` (R154, R120). -/
  | stzAbs (a : Word)
  /-- $9D `STA abs,X` (R151, R121). -/
  | staAbx (a : Word)
  /-- $9E `STZ abs,X` (R154, R121). -/
  | stzAbx (a : Word)
  /-- $9F `STA long,X` (R151, R126). -/
  | staAlx (a : Addr)
  /-- $A0 `LDY #const` (R144, R127). -/
  | ldyImm (c : Word)
  /-- $A1 `LDA (dp,X)` (R142, R116). -/
  | ldaIdx (d : Byte)
  /-- $A2 `LDX #const` (R143, R127). -/
  | ldxImm (c : Word)
  /-- $A3 `LDA sr,S` (R142, R123). -/
  | ldaSr (d : Byte)
  /-- $A4 `LDY dp` (R144, R112). -/
  | ldyDp (d : Byte)
  /-- $A5 `LDA dp` (R142, R112). -/
  | ldaDp (d : Byte)
  /-- $A6 `LDX dp` (R143, R112). -/
  | ldxDp (d : Byte)
  /-- $A7 `LDA [dp]` (R142, R118). -/
  | ldaIdl (d : Byte)
  /-- $A9 `LDA #const` (R142, R127). -/
  | ldaImm (c : Word)
  /-- $AC `LDY abs` (R144, R120). -/
  | ldyAbs (a : Word)
  /-- $AD `LDA abs` (R142, R120). -/
  | ldaAbs (a : Word)
  /-- $AE `LDX abs` (R143, R120). -/
  | ldxAbs (a : Word)
  /-- $AF `LDA long` (R142, R125). -/
  | ldaAbl (a : Addr)
  /-- $B0 `BCS rel8` (R266, R128). -/
  | bcs (disp : Byte)
  /-- $B1 `LDA (dp),Y` (R142, R117). -/
  | ldaIdy (d : Byte)
  /-- $B2 `LDA (dp)` (R142, R115). -/
  | ldaIdp (d : Byte)
  /-- $B3 `LDA (sr,S),Y` (R142, R124). -/
  | ldaIsy (d : Byte)
  /-- $B4 `LDY dp,X` (R144, R113). -/
  | ldyDpx (d : Byte)
  /-- $B5 `LDA dp,X` (R142, R113). -/
  | ldaDpx (d : Byte)
  /-- $B6 `LDX dp,Y` (R143, R114). -/
  | ldxDpy (d : Byte)
  /-- $B7 `LDA [dp],Y` (R142, R119). -/
  | ldaIly (d : Byte)
  /-- $B9 `LDA abs,Y` (R142, R122). -/
  | ldaAby (a : Word)
  /-- $BC `LDY abs,X` (R144, R121). -/
  | ldyAbx (a : Word)
  /-- $BD `LDA abs,X` (R142, R121). -/
  | ldaAbx (a : Word)
  /-- $BE `LDX abs,Y` (R143, R122). -/
  | ldxAby (a : Word)
  /-- $BF `LDA long,X` (R142, R126). -/
  | ldaAlx (a : Addr)
  /-- $C0 `CPY #const` (R140, R127). -/
  | cpyImm (c : Word)
  /-- $C1 `CMP (dp,X)` (R138, R116). -/
  | cmpIdx (d : Byte)
  /-- $C2 `REP #const8` (R208, R128). -/
  | rep (mask : Byte)
  /-- $C3 `CMP sr,S` (R138, R123). -/
  | cmpSr (d : Byte)
  /-- $C4 `CPY dp` (R140, R112). -/
  | cpyDp (d : Byte)
  /-- $C5 `CMP dp` (R138, R112). -/
  | cmpDp (d : Byte)
  /-- $C6 `DEC dp` (R161, R112). -/
  | decDp (d : Byte)
  /-- $C7 `CMP [dp]` (R138, R118). -/
  | cmpIdl (d : Byte)
  /-- $C9 `CMP #const` (R138, R127). -/
  | cmpImm (c : Word)
  /-- $CC `CPY abs` (R140, R120). -/
  | cpyAbs (a : Word)
  /-- $CD `CMP abs` (R138, R120). -/
  | cmpAbs (a : Word)
  /-- $CE `DEC abs` (R161, R120). -/
  | decAbs (a : Word)
  /-- $CF `CMP long` (R138, R125). -/
  | cmpAbl (a : Addr)
  /-- $D0 `BNE rel8` (R267, R128). -/
  | bne (disp : Byte)
  /-- $D1 `CMP (dp),Y` (R138, R117). -/
  | cmpIdy (d : Byte)
  /-- $D2 `CMP (dp)` (R138, R115). -/
  | cmpIdp (d : Byte)
  /-- $D3 `CMP (sr,S),Y` (R138, R124). -/
  | cmpIsy (d : Byte)
  /-- $D4 `PEI (dp)` (R245, R112). -/
  | pei (d : Byte)
  /-- $D5 `CMP dp,X` (R138, R113). -/
  | cmpDpx (d : Byte)
  /-- $D6 `DEC dp,X` (R161, R113). -/
  | decDpx (d : Byte)
  /-- $D7 `CMP [dp],Y` (R138, R119). -/
  | cmpIly (d : Byte)
  /-- $D9 `CMP abs,Y` (R138, R122). -/
  | cmpAby (a : Word)
  /-- $DC `JML [abs]` (R274, R128). -/
  | jmlInd (a : Word)
  /-- $DD `CMP abs,X` (R138, R121). -/
  | cmpAbx (a : Word)
  /-- $DE `DEC abs,X` (R161, R121). -/
  | decAbx (a : Word)
  /-- $DF `CMP long,X` (R138, R126). -/
  | cmpAlx (a : Addr)
  /-- $E0 `CPX #const` (R139, R127). -/
  | cpxImm (c : Word)
  /-- $E1 `SBC (dp,X)` (R136, R116). -/
  | sbcIdx (d : Byte)
  /-- $E2 `SEP #const8` (R209, R128). -/
  | sep (mask : Byte)
  /-- $E3 `SBC sr,S` (R136, R123). -/
  | sbcSr (d : Byte)
  /-- $E4 `CPX dp` (R139, R112). -/
  | cpxDp (d : Byte)
  /-- $E5 `SBC dp` (R136, R112). -/
  | sbcDp (d : Byte)
  /-- $E6 `INC dp` (R160, R112). -/
  | incDp (d : Byte)
  /-- $E7 `SBC [dp]` (R136, R118). -/
  | sbcIdl (d : Byte)
  /-- $E9 `SBC #const` (R136, R127). -/
  | sbcImm (c : Word)
  /-- $EC `CPX abs` (R139, R120). -/
  | cpxAbs (a : Word)
  /-- $ED `SBC abs` (R136, R120). -/
  | sbcAbs (a : Word)
  /-- $EE `INC abs` (R160, R120). -/
  | incAbs (a : Word)
  /-- $EF `SBC long` (R136, R125). -/
  | sbcAbl (a : Addr)
  /-- $F0 `BEQ rel8` (R268, R128). -/
  | beq (disp : Byte)
  /-- $F1 `SBC (dp),Y` (R136, R117). -/
  | sbcIdy (d : Byte)
  /-- $F2 `SBC (dp)` (R136, R115). -/
  | sbcIdp (d : Byte)
  /-- $F3 `SBC (sr,S),Y` (R136, R124). -/
  | sbcIsy (d : Byte)
  /-- $F4 `PEA #const16` (R244, R128). -/
  | pea (c : Word)
  /-- $F5 `SBC dp,X` (R136, R113). -/
  | sbcDpx (d : Byte)
  /-- $F6 `INC dp,X` (R160, R113). -/
  | incDpx (d : Byte)
  /-- $F7 `SBC [dp],Y` (R136, R119). -/
  | sbcIly (d : Byte)
  /-- $F9 `SBC abs,Y` (R136, R122). -/
  | sbcAby (a : Word)
  /-- $FC `JSR (abs,X)` (R277, R128). -/
  | jsrIax (a : Word)
  /-- $FD `SBC abs,X` (R136, R121). -/
  | sbcAbx (a : Word)
  /-- $FE `INC abs,X` (R160, R121). -/
  | incAbx (a : Word)
  /-- $FF `SBC long,X` (R136, R126). -/
  | sbcAlx (a : Addr)
  /-- $08 `PHP` (R234, R128). -/
  | php
  /-- $0A `ASL A` (R156, R111). -/
  | aslAcc
  /-- $0B `PHD` (R236, R128). -/
  | phd
  /-- $18 `CLC` (R181, R111). -/
  | clc
  /-- $1A `INC A` (R160, R111). -/
  | incAcc
  /-- $1B `TCS` (R193, R111). -/
  | tcs
  /-- $28 `PLP` (R241, R128). -/
  | plp
  /-- $2A `ROL A` (R158, R111). -/
  | rolAcc
  /-- $2B `PLD` (R243, R128). -/
  | pld
  /-- $38 `SEC` (R182, R111). -/
  | sec
  /-- $3A `DEC A` (R161, R111). -/
  | decAcc
  /-- $3B `TSC` (R194, R111). -/
  | tsc
  /-- $40 `RTI` (R281, R128). -/
  | rti
  /-- $48 `PHA` (R231, R128). -/
  | pha
  /-- $4A `LSR A` (R157, R111). -/
  | lsrAcc
  /-- $4B `PHK` (R237, R128). -/
  | phk
  /-- $58 `CLI` (R183, R111). -/
  | cli
  /-- $5A `PHY` (R233, R128). -/
  | phy
  /-- $5B `TCD` (R195, R111). -/
  | tcd
  /-- $60 `RTS` (R279, R128). -/
  | rts
  /-- $68 `PLA` (R238, R128). -/
  | pla
  /-- $6A `ROR A` (R159, R111). -/
  | rorAcc
  /-- $6B `RTL` (R280, R128). -/
  | rtl
  /-- $78 `SEI` (R184, R111). -/
  | sei
  /-- $7A `PLY` (R240, R128). -/
  | ply
  /-- $7B `TDC` (R196, R111). -/
  | tdc
  /-- $88 `DEY` (R203, R111). -/
  | dey
  /-- $8A `TXA` (R189, R111). -/
  | txa
  /-- $8B `PHB` (R235, R128). -/
  | phb
  /-- $98 `TYA` (R190, R111). -/
  | tya
  /-- $9A `TXS` (R191, R111). -/
  | txs
  /-- $9B `TXY` (R197, R111). -/
  | txy
  /-- $A8 `TAY` (R188, R111). -/
  | tay
  /-- $AA `TAX` (R187, R111). -/
  | tax
  /-- $AB `PLB` (R242, R128). -/
  | plb
  /-- $B8 `CLV` (R199, R111). -/
  | clv
  /-- $BA `TSX` (R192, R111). -/
  | tsx
  /-- $BB `TYX` (R198, R111). -/
  | tyx
  /-- $C8 `INY` (R201, R111). -/
  | iny
  /-- $CA `DEX` (R202, R111). -/
  | dex
  /-- $CB `WAI` (R302, R128). -/
  | wai
  /-- $D8 `CLD` (R185, R111). -/
  | cld
  /-- $DA `PHX` (R232, R128). -/
  | phx
  /-- $DB `STP` (R303, R128). -/
  | stp
  /-- $E8 `INX` (R200, R111). -/
  | inx
  /-- $EA `NOP` (R206, R111). -/
  | nop
  /-- $EB `XBA` (R204, R128). -/
  | xba
  /-- $F8 `SED` (R186, R111). -/
  | sed
  /-- $FA `PLX` (R239, R128). -/
  | plx
  /-- $FB `XCE` (R205, R111). -/
  | xce
deriving DecidableEq, Repr

end Sys2Proof
end

