-- ==== Sys2Proof/Machine/Operands.lean ====
section
/-! DEFINITION. The addressing-mode calculators (40_addressing_modes.md R110 to R129) and the reads and writes of
an operand (41_alu_read.md R130, 42_store_rmw.md R150, R155, R164). Every definition starts after the opcode
fetch, with PC at the first operand byte. -/

namespace Sys2Proof.Machine

/-- The two bus addresses of an operand: of its low byte and of its high byte (R110). -/
structure AddrPair where
  lo : Addr
  hi : Addr
deriving DecidableEq, Repr

/-- An operand in bank 0 (direct page, stack relative): the high byte's address wraps at $FFFF (R66). -/
def directPair (off : Word) : AddrPair := ⟨bank0 off, bank0 (off + 1)⟩

/-- An operand anywhere: the high byte's address carries into the next bank (R66). -/
def longPair (a : Addr) : AddrPair := ⟨a, a + 1⟩

/-- `(bank << 16) + base + index` modulo $1000000, and the address after it (R86). -/
def indexedPair (bank : Byte) (base index : Word) : AddrPair :=
  longPair (bankAddr bank base + index.setWidth 24)

/-- DPIDLE (R129): one idle if the direct page is not page-aligned. -/
def dpIdle (s : State) : State := if loByte s.dp = 0x00#8 then s else idle s

/-- PENALTY (R129): one idle when the access is a write, flag X is 0, or the index changes the high byte. -/
def penalty (base index : Word) (write : Bool) (s : State) : State :=
  if write || !s.fX || hiByte base != hiByte (base + index) then idle s else s

/-- `AdrImp()` (R111): poll, then the dummy read at `K:PC` if an interrupt is wanted, else one idle. -/
def adrImp (s : State) : State :=
  let s := poll s
  if s.intWanted then (busRead (pcAddr s) s).2 else idle s

/-- The offset byte of a direct-page mode, and DPIDLE after it (R129). -/
def fetchDp (d : Byte) (s : State) : State := dpIdle (fetchByte d s)

/-- A 16-bit pointer at an offset in bank 0 (R66, R110: no poll). -/
def readPointer (off : Word) (s : State) : Word × State := readWord (bank0 off) (bank0 (off + 1)) false s

/-- `AdrDp()` (R112). -/
def adrDp (d : Byte) (s : State) : AddrPair × State :=
  let s := fetchDp d s
  (directPair (s.dp + zextByte d), s)

/-- `AdrDpx()` (R113). -/
def adrDpx (d : Byte) (s : State) : AddrPair × State :=
  let s := idle (fetchDp d s)
  (directPair (s.dp + zextByte d + s.x), s)

/-- `AdrDpy()` (R114). -/
def adrDpy (d : Byte) (s : State) : AddrPair × State :=
  let s := idle (fetchDp d s)
  (directPair (s.dp + zextByte d + s.y), s)

/-- `AdrIdp()` (R115). -/
def adrIdp (d : Byte) (s : State) : AddrPair × State :=
  let s := fetchDp d s
  let p := readPointer (s.dp + zextByte d) s
  (indexedPair p.2.db p.1 0#16, p.2)

/-- `AdrIdx()` (R116). -/
def adrIdx (d : Byte) (s : State) : AddrPair × State :=
  let s := idle (fetchDp d s)
  let p := readPointer (s.dp + zextByte d + s.x) s
  (indexedPair p.2.db p.1 0#16, p.2)

/-- `AdrIdy(write)` (R117). -/
def adrIdy (d : Byte) (write : Bool) (s : State) : AddrPair × State :=
  let s := fetchDp d s
  let p := readPointer (s.dp + zextByte d) s
  let s := penalty p.1 p.2.y write p.2
  (indexedPair s.db p.1 s.y, s)

/-- The 24-bit pointer of `[dp]`: low, high, bank, all in bank 0 (R118). -/
def readLongPointer (off : Word) (s : State) : Addr × State :=
  let p := readPointer off s
  let b := busRead (bank0 (off + 2)) p.2
  (bankAddr b.1 p.1, b.2)

/-- `AdrIdl()` (R118). -/
def adrIdl (d : Byte) (s : State) : AddrPair × State :=
  let s := fetchDp d s
  let p := readLongPointer (s.dp + zextByte d) s
  (longPair p.1, p.2)

/-- `AdrIly()` (R119). -/
def adrIly (d : Byte) (s : State) : AddrPair × State :=
  let s := fetchDp d s
  let p := readLongPointer (s.dp + zextByte d) s
  (longPair (p.1 + p.2.y.setWidth 24), p.2)

/-- `AdrSr()` (R123). -/
def adrSr (d : Byte) (s : State) : AddrPair × State :=
  let s := idle (fetchByte d s)
  (directPair (s.sp + zextByte d), s)

/-- `AdrIsy()` (R124). -/
def adrIsy (d : Byte) (s : State) : AddrPair × State :=
  let s := idle (fetchByte d s)
  let p := readPointer (s.sp + zextByte d) s
  let s := idle p.2
  (indexedPair s.db p.1 s.y, s)

/-- `AdrAbs()` (R120). -/
def adrAbs (a : Word) (s : State) : AddrPair × State :=
  let s := fetchWord a false s
  (indexedPair s.db a 0#16, s)

/-- `AdrAbx(write)` (R121). -/
def adrAbx (a : Word) (write : Bool) (s : State) : AddrPair × State :=
  let s := fetchWord a false s
  let s := penalty a s.x write s
  (indexedPair s.db a s.x, s)

/-- `AdrAby(write)` (R122). -/
def adrAby (a : Word) (write : Bool) (s : State) : AddrPair × State :=
  let s := fetchWord a false s
  let s := penalty a s.y write s
  (indexedPair s.db a s.y, s)

/-- `AdrAbl()` (R125). -/
def adrAbl (a : Addr) (s : State) : AddrPair × State :=
  let s := fetchByte (addrBank a) (fetchWord (addrOffset a) false s)
  (longPair a, s)

/-- `AdrAlx()` (R126). -/
def adrAlx (a : Addr) (s : State) : AddrPair × State :=
  let s := fetchByte (addrBank a) (fetchWord (addrOffset a) false s)
  (longPair (a + s.x.setWidth 24), s)

/-- The calculator of an operand in memory: the address pair and the state after it. `write` is the argument of
R129, used by Idy, Abx and Aby only. -/
def address (o : MemOperand) (write : Bool) (s : State) : AddrPair × State :=
  match o with
  | .dp d => adrDp d s
  | .dpx d => adrDpx d s
  | .dpy d => adrDpy d s
  | .idp d => adrIdp d s
  | .idx d => adrIdx d s
  | .idy d => adrIdy d write s
  | .idl d => adrIdl d s
  | .ily d => adrIly d s
  | .sr d => adrSr d s
  | .isy d => adrIsy d s
  | .abs a => adrAbs a s
  | .abx a => adrAbx a write s
  | .aby a => adrAby a write s
  | .abl a => adrAbl a s
  | .alx a => adrAlx a s

/-! ### Reading and writing the operand -/

/-- `ReadOperand(lo, hi, w8)` (R130): the poll is immediately before the last bus cycle. -/
def readOperand (p : AddrPair) (w8 : Bool) (s : State) : Word × State :=
  if w8 then
    let r := busRead p.lo (poll s)
    (zextByte r.1, r.2)
  else readWord p.lo p.hi true s

/-- `AdrImm` with `ReadOperand` (R127, R130): the reads of the immediate are the fetches of its bytes, one byte
at the 8-bit width and two at the 16-bit width. -/
def readImm (c : Word) (w8 : Bool) (s : State) : Word × State :=
  if w8 then (zextByte (loByte c), fetchByte (loByte c) (poll s))
  else (c, fetchWord c true s)

/-- The operand of an instruction that only reads it: its value at the width, and the state after the read. -/
def readData (o : Operand) (w8 : Bool) (s : State) : Word × State :=
  match o with
  | .imm c => readImm c w8 s
  | .mem m =>
    let p := address m false s
    readOperand p.1 w8 p.2

/-- `WriteOperand(lo, hi, v, w8)` (R150). -/
def writeOperand (p : AddrPair) (v : Word) (w8 : Bool) (s : State) : State :=
  if w8 then busWrite p.lo (loByte v) (poll s) else writeWord p.lo p.hi v false true s

/-- A store: the calculator with `write` true, then the write (R151 to R154). -/
def storeData (o : MemOperand) (v : Word) (w8 : Bool) (s : State) : State :=
  let p := address o true s
  writeOperand p.1 v w8 p.2

/-- `RMW(lo, hi, f)` (R155): read without a poll, one idle, `f`, write in reversed order. -/
def rmwAt (p : AddrPair) (f : Word → State → Word × State) (s : State) : State :=
  if s.fM then
    let v := busRead p.lo s
    let r := f (zextByte v.1) (idle v.2)
    busWrite p.lo (loByte r.1) (poll r.2)
  else
    let v := readWord p.lo p.hi false s
    let r := f v.1 (idle v.2)
    writeWord p.lo p.hi r.1 true true r.2

/-- A read-modify-write instruction on memory: the calculator with `write` true, then RMW (R155). -/
def rmwMem (f : Word → State → Word × State) (o : MemOperand) (s : State) : State :=
  let p := address o true s
  rmwAt p.1 f p.2

/-- An accumulator form: `AdrImp(); Aw <- f(Aw)` (R164). -/
def rmwAcc (f : Word → State → Word × State) (s : State) : State :=
  let s := adrImp s
  let r := f (accW s) s
  setAccW r.1 r.2

end Sys2Proof.Machine
end

