-- ==== Sys2Proof/Machine/AluRead.lean ====
section
/-! DEFINITION. The twelve instructions that read an operand and update a register or only flags
(41_alu_read.md): ORA AND EOR ADC SBC CMP CPX CPY BIT LDA LDX LDY. First what each does with any operand, then
one meaning for each opcode. -/

namespace Sys2Proof.Machine

/-- ORA, AND and EOR (R131 to R133): `Aw <- f Aw v`, N and Z of the new Aw at the width of M. -/
def aluLogic (f : Word → Word → Word) (o : Operand) (s : State) : State :=
  let r := readData o s.fM s
  let v := f (accW r.2) r.1
  setZN v r.2.fM (setAccW v r.2)

/-- ADC (R134, R135). -/
def aluAdc (o : Operand) (s : State) : State :=
  let r := readData o s.fM s
  putSum (adc r.2.fD r.2.fM (accW r.2) r.1 r.2.fC) r.2

/-- SBC (R136, R137). -/
def aluSbc (o : Operand) (s : State) : State :=
  let r := readData o s.fM s
  putSum (sbc r.2.fD r.2.fM (accW r.2) r.1 r.2.fC) r.2

/-- CMP (R138). -/
def aluCmp (o : Operand) (s : State) : State :=
  let r := readData o s.fM s
  compareFlags r.2.fM (accW r.2) r.1 r.2

/-- CPX (R139). -/
def aluCpx (o : Operand) (s : State) : State :=
  let r := readData o s.fX s
  compareFlags r.2.fX (maskW r.2.fX r.2.x) r.1 r.2

/-- CPY (R140). -/
def aluCpy (o : Operand) (s : State) : State :=
  let r := readData o s.fX s
  compareFlags r.2.fX (maskW r.2.fX r.2.y) r.1 r.2

/-- The bit below the top bit of the width: bit 6 or bit 14 (R141). -/
def bit6W (w8 : Bool) (v : Word) : Bool := if w8 then v.getLsbD 6 else v.getLsbD 14

/-- BIT with an operand in memory (R141): Z from `Aw & v`, N and V from the operand's top two bits. -/
def aluBit (o : MemOperand) (s : State) : State :=
  let r := readData (.mem o) s.fM s
  { r.2 with fZ := (accW r.2 &&& r.1) == 0#16, fN := signW r.2.fM r.1, fV := bit6W r.2.fM r.1 }

/-- BIT immediate (R141, D14): Z only. -/
def aluBitImm (c : Word) (s : State) : State :=
  let r := readData (.imm c) s.fM s
  { r.2 with fZ := (accW r.2 &&& r.1) == 0#16 }

/-- LDA (R142). -/
def aluLda (o : Operand) (s : State) : State :=
  let r := readData o s.fM s
  setZN r.1 r.2.fM (setAccW r.1 r.2)

/-- LDX (R143). -/
def aluLdx (o : Operand) (s : State) : State :=
  let r := readData o s.fX s
  setZN r.1 r.2.fX { r.2 with x := r.1 }

/-- LDY (R144). -/
def aluLdy (o : Operand) (s : State) : State :=
  let r := readData o s.fX s
  setZN r.1 r.2.fX { r.2 with y := r.1 }

/-! ORA (R131) -/

/-- `ORA (dp,X)`, opcode $01 (R131, R116). -/
def execOraIdx (d : Byte) (s : State) : Result := .next (aluLogic (· ||| ·) (.mem (.idx d)) s)

/-- `ORA sr,S`, opcode $03 (R131, R123). -/
def execOraSr (d : Byte) (s : State) : Result := .next (aluLogic (· ||| ·) (.mem (.sr d)) s)

/-- `ORA dp`, opcode $05 (R131, R112). -/
def execOraDp (d : Byte) (s : State) : Result := .next (aluLogic (· ||| ·) (.mem (.dp d)) s)

/-- `ORA [dp]`, opcode $07 (R131, R118). -/
def execOraIdl (d : Byte) (s : State) : Result := .next (aluLogic (· ||| ·) (.mem (.idl d)) s)

/-- `ORA #const`, opcode $09 (R131, R127). -/
def execOraImm (c : Word) (s : State) : Result := .next (aluLogic (· ||| ·) (.imm c) s)

/-- `ORA abs`, opcode $0D (R131, R120). -/
def execOraAbs (a : Word) (s : State) : Result := .next (aluLogic (· ||| ·) (.mem (.abs a)) s)

/-- `ORA long`, opcode $0F (R131, R125). -/
def execOraAbl (a : Addr) (s : State) : Result := .next (aluLogic (· ||| ·) (.mem (.abl a)) s)

/-- `ORA (dp),Y`, opcode $11 (R131, R117). -/
def execOraIdy (d : Byte) (s : State) : Result := .next (aluLogic (· ||| ·) (.mem (.idy d)) s)

/-- `ORA (dp)`, opcode $12 (R131, R115). -/
def execOraIdp (d : Byte) (s : State) : Result := .next (aluLogic (· ||| ·) (.mem (.idp d)) s)

/-- `ORA (sr,S),Y`, opcode $13 (R131, R124). -/
def execOraIsy (d : Byte) (s : State) : Result := .next (aluLogic (· ||| ·) (.mem (.isy d)) s)

/-- `ORA dp,X`, opcode $15 (R131, R113). -/
def execOraDpx (d : Byte) (s : State) : Result := .next (aluLogic (· ||| ·) (.mem (.dpx d)) s)

/-- `ORA [dp],Y`, opcode $17 (R131, R119). -/
def execOraIly (d : Byte) (s : State) : Result := .next (aluLogic (· ||| ·) (.mem (.ily d)) s)

/-- `ORA abs,Y`, opcode $19 (R131, R122). -/
def execOraAby (a : Word) (s : State) : Result := .next (aluLogic (· ||| ·) (.mem (.aby a)) s)

/-- `ORA abs,X`, opcode $1D (R131, R121). -/
def execOraAbx (a : Word) (s : State) : Result := .next (aluLogic (· ||| ·) (.mem (.abx a)) s)

/-- `ORA long,X`, opcode $1F (R131, R126). -/
def execOraAlx (a : Addr) (s : State) : Result := .next (aluLogic (· ||| ·) (.mem (.alx a)) s)

/-! AND (R132) -/

/-- `AND (dp,X)`, opcode $21 (R132, R116). -/
def execAndIdx (d : Byte) (s : State) : Result := .next (aluLogic (· &&& ·) (.mem (.idx d)) s)

/-- `AND sr,S`, opcode $23 (R132, R123). -/
def execAndSr (d : Byte) (s : State) : Result := .next (aluLogic (· &&& ·) (.mem (.sr d)) s)

/-- `AND dp`, opcode $25 (R132, R112). -/
def execAndDp (d : Byte) (s : State) : Result := .next (aluLogic (· &&& ·) (.mem (.dp d)) s)

/-- `AND [dp]`, opcode $27 (R132, R118). -/
def execAndIdl (d : Byte) (s : State) : Result := .next (aluLogic (· &&& ·) (.mem (.idl d)) s)

/-- `AND #const`, opcode $29 (R132, R127). -/
def execAndImm (c : Word) (s : State) : Result := .next (aluLogic (· &&& ·) (.imm c) s)

/-- `AND abs`, opcode $2D (R132, R120). -/
def execAndAbs (a : Word) (s : State) : Result := .next (aluLogic (· &&& ·) (.mem (.abs a)) s)

/-- `AND long`, opcode $2F (R132, R125). -/
def execAndAbl (a : Addr) (s : State) : Result := .next (aluLogic (· &&& ·) (.mem (.abl a)) s)

/-- `AND (dp),Y`, opcode $31 (R132, R117). -/
def execAndIdy (d : Byte) (s : State) : Result := .next (aluLogic (· &&& ·) (.mem (.idy d)) s)

/-- `AND (dp)`, opcode $32 (R132, R115). -/
def execAndIdp (d : Byte) (s : State) : Result := .next (aluLogic (· &&& ·) (.mem (.idp d)) s)

/-- `AND (sr,S),Y`, opcode $33 (R132, R124). -/
def execAndIsy (d : Byte) (s : State) : Result := .next (aluLogic (· &&& ·) (.mem (.isy d)) s)

/-- `AND dp,X`, opcode $35 (R132, R113). -/
def execAndDpx (d : Byte) (s : State) : Result := .next (aluLogic (· &&& ·) (.mem (.dpx d)) s)

/-- `AND [dp],Y`, opcode $37 (R132, R119). -/
def execAndIly (d : Byte) (s : State) : Result := .next (aluLogic (· &&& ·) (.mem (.ily d)) s)

/-- `AND abs,Y`, opcode $39 (R132, R122). -/
def execAndAby (a : Word) (s : State) : Result := .next (aluLogic (· &&& ·) (.mem (.aby a)) s)

/-- `AND abs,X`, opcode $3D (R132, R121). -/
def execAndAbx (a : Word) (s : State) : Result := .next (aluLogic (· &&& ·) (.mem (.abx a)) s)

/-- `AND long,X`, opcode $3F (R132, R126). -/
def execAndAlx (a : Addr) (s : State) : Result := .next (aluLogic (· &&& ·) (.mem (.alx a)) s)

/-! EOR (R133) -/

/-- `EOR (dp,X)`, opcode $41 (R133, R116). -/
def execEorIdx (d : Byte) (s : State) : Result := .next (aluLogic (· ^^^ ·) (.mem (.idx d)) s)

/-- `EOR sr,S`, opcode $43 (R133, R123). -/
def execEorSr (d : Byte) (s : State) : Result := .next (aluLogic (· ^^^ ·) (.mem (.sr d)) s)

/-- `EOR dp`, opcode $45 (R133, R112). -/
def execEorDp (d : Byte) (s : State) : Result := .next (aluLogic (· ^^^ ·) (.mem (.dp d)) s)

/-- `EOR [dp]`, opcode $47 (R133, R118). -/
def execEorIdl (d : Byte) (s : State) : Result := .next (aluLogic (· ^^^ ·) (.mem (.idl d)) s)

/-- `EOR #const`, opcode $49 (R133, R127). -/
def execEorImm (c : Word) (s : State) : Result := .next (aluLogic (· ^^^ ·) (.imm c) s)

/-- `EOR abs`, opcode $4D (R133, R120). -/
def execEorAbs (a : Word) (s : State) : Result := .next (aluLogic (· ^^^ ·) (.mem (.abs a)) s)

/-- `EOR long`, opcode $4F (R133, R125). -/
def execEorAbl (a : Addr) (s : State) : Result := .next (aluLogic (· ^^^ ·) (.mem (.abl a)) s)

/-- `EOR (dp),Y`, opcode $51 (R133, R117). -/
def execEorIdy (d : Byte) (s : State) : Result := .next (aluLogic (· ^^^ ·) (.mem (.idy d)) s)

/-- `EOR (dp)`, opcode $52 (R133, R115). -/
def execEorIdp (d : Byte) (s : State) : Result := .next (aluLogic (· ^^^ ·) (.mem (.idp d)) s)

/-- `EOR (sr,S),Y`, opcode $53 (R133, R124). -/
def execEorIsy (d : Byte) (s : State) : Result := .next (aluLogic (· ^^^ ·) (.mem (.isy d)) s)

/-- `EOR dp,X`, opcode $55 (R133, R113). -/
def execEorDpx (d : Byte) (s : State) : Result := .next (aluLogic (· ^^^ ·) (.mem (.dpx d)) s)

/-- `EOR [dp],Y`, opcode $57 (R133, R119). -/
def execEorIly (d : Byte) (s : State) : Result := .next (aluLogic (· ^^^ ·) (.mem (.ily d)) s)

/-- `EOR abs,Y`, opcode $59 (R133, R122). -/
def execEorAby (a : Word) (s : State) : Result := .next (aluLogic (· ^^^ ·) (.mem (.aby a)) s)

/-- `EOR abs,X`, opcode $5D (R133, R121). -/
def execEorAbx (a : Word) (s : State) : Result := .next (aluLogic (· ^^^ ·) (.mem (.abx a)) s)

/-- `EOR long,X`, opcode $5F (R133, R126). -/
def execEorAlx (a : Addr) (s : State) : Result := .next (aluLogic (· ^^^ ·) (.mem (.alx a)) s)

/-! ADC (R134, R135) -/

/-- `ADC (dp,X)`, opcode $61 (R134, R116). -/
def execAdcIdx (d : Byte) (s : State) : Result := .next (aluAdc (.mem (.idx d)) s)

/-- `ADC sr,S`, opcode $63 (R134, R123). -/
def execAdcSr (d : Byte) (s : State) : Result := .next (aluAdc (.mem (.sr d)) s)

/-- `ADC dp`, opcode $65 (R134, R112). -/
def execAdcDp (d : Byte) (s : State) : Result := .next (aluAdc (.mem (.dp d)) s)

/-- `ADC [dp]`, opcode $67 (R134, R118). -/
def execAdcIdl (d : Byte) (s : State) : Result := .next (aluAdc (.mem (.idl d)) s)

/-- `ADC #const`, opcode $69 (R134, R127). -/
def execAdcImm (c : Word) (s : State) : Result := .next (aluAdc (.imm c) s)

/-- `ADC abs`, opcode $6D (R134, R120). -/
def execAdcAbs (a : Word) (s : State) : Result := .next (aluAdc (.mem (.abs a)) s)

/-- `ADC long`, opcode $6F (R134, R125). -/
def execAdcAbl (a : Addr) (s : State) : Result := .next (aluAdc (.mem (.abl a)) s)

/-- `ADC (dp),Y`, opcode $71 (R134, R117). -/
def execAdcIdy (d : Byte) (s : State) : Result := .next (aluAdc (.mem (.idy d)) s)

/-- `ADC (dp)`, opcode $72 (R134, R115). -/
def execAdcIdp (d : Byte) (s : State) : Result := .next (aluAdc (.mem (.idp d)) s)

/-- `ADC (sr,S),Y`, opcode $73 (R134, R124). -/
def execAdcIsy (d : Byte) (s : State) : Result := .next (aluAdc (.mem (.isy d)) s)

/-- `ADC dp,X`, opcode $75 (R134, R113). -/
def execAdcDpx (d : Byte) (s : State) : Result := .next (aluAdc (.mem (.dpx d)) s)

/-- `ADC [dp],Y`, opcode $77 (R134, R119). -/
def execAdcIly (d : Byte) (s : State) : Result := .next (aluAdc (.mem (.ily d)) s)

/-- `ADC abs,Y`, opcode $79 (R134, R122). -/
def execAdcAby (a : Word) (s : State) : Result := .next (aluAdc (.mem (.aby a)) s)

/-- `ADC abs,X`, opcode $7D (R134, R121). -/
def execAdcAbx (a : Word) (s : State) : Result := .next (aluAdc (.mem (.abx a)) s)

/-- `ADC long,X`, opcode $7F (R134, R126). -/
def execAdcAlx (a : Addr) (s : State) : Result := .next (aluAdc (.mem (.alx a)) s)

/-! SBC (R136, R137) -/

/-- `SBC (dp,X)`, opcode $E1 (R136, R116). -/
def execSbcIdx (d : Byte) (s : State) : Result := .next (aluSbc (.mem (.idx d)) s)

/-- `SBC sr,S`, opcode $E3 (R136, R123). -/
def execSbcSr (d : Byte) (s : State) : Result := .next (aluSbc (.mem (.sr d)) s)

/-- `SBC dp`, opcode $E5 (R136, R112). -/
def execSbcDp (d : Byte) (s : State) : Result := .next (aluSbc (.mem (.dp d)) s)

/-- `SBC [dp]`, opcode $E7 (R136, R118). -/
def execSbcIdl (d : Byte) (s : State) : Result := .next (aluSbc (.mem (.idl d)) s)

/-- `SBC #const`, opcode $E9 (R136, R127). -/
def execSbcImm (c : Word) (s : State) : Result := .next (aluSbc (.imm c) s)

/-- `SBC abs`, opcode $ED (R136, R120). -/
def execSbcAbs (a : Word) (s : State) : Result := .next (aluSbc (.mem (.abs a)) s)

/-- `SBC long`, opcode $EF (R136, R125). -/
def execSbcAbl (a : Addr) (s : State) : Result := .next (aluSbc (.mem (.abl a)) s)

/-- `SBC (dp),Y`, opcode $F1 (R136, R117). -/
def execSbcIdy (d : Byte) (s : State) : Result := .next (aluSbc (.mem (.idy d)) s)

/-- `SBC (dp)`, opcode $F2 (R136, R115). -/
def execSbcIdp (d : Byte) (s : State) : Result := .next (aluSbc (.mem (.idp d)) s)

/-- `SBC (sr,S),Y`, opcode $F3 (R136, R124). -/
def execSbcIsy (d : Byte) (s : State) : Result := .next (aluSbc (.mem (.isy d)) s)

/-- `SBC dp,X`, opcode $F5 (R136, R113). -/
def execSbcDpx (d : Byte) (s : State) : Result := .next (aluSbc (.mem (.dpx d)) s)

/-- `SBC [dp],Y`, opcode $F7 (R136, R119). -/
def execSbcIly (d : Byte) (s : State) : Result := .next (aluSbc (.mem (.ily d)) s)

/-- `SBC abs,Y`, opcode $F9 (R136, R122). -/
def execSbcAby (a : Word) (s : State) : Result := .next (aluSbc (.mem (.aby a)) s)

/-- `SBC abs,X`, opcode $FD (R136, R121). -/
def execSbcAbx (a : Word) (s : State) : Result := .next (aluSbc (.mem (.abx a)) s)

/-- `SBC long,X`, opcode $FF (R136, R126). -/
def execSbcAlx (a : Addr) (s : State) : Result := .next (aluSbc (.mem (.alx a)) s)

/-! CMP (R138) -/

/-- `CMP (dp,X)`, opcode $C1 (R138, R116). -/
def execCmpIdx (d : Byte) (s : State) : Result := .next (aluCmp (.mem (.idx d)) s)

/-- `CMP sr,S`, opcode $C3 (R138, R123). -/
def execCmpSr (d : Byte) (s : State) : Result := .next (aluCmp (.mem (.sr d)) s)

/-- `CMP dp`, opcode $C5 (R138, R112). -/
def execCmpDp (d : Byte) (s : State) : Result := .next (aluCmp (.mem (.dp d)) s)

/-- `CMP [dp]`, opcode $C7 (R138, R118). -/
def execCmpIdl (d : Byte) (s : State) : Result := .next (aluCmp (.mem (.idl d)) s)

/-- `CMP #const`, opcode $C9 (R138, R127). -/
def execCmpImm (c : Word) (s : State) : Result := .next (aluCmp (.imm c) s)

/-- `CMP abs`, opcode $CD (R138, R120). -/
def execCmpAbs (a : Word) (s : State) : Result := .next (aluCmp (.mem (.abs a)) s)

/-- `CMP long`, opcode $CF (R138, R125). -/
def execCmpAbl (a : Addr) (s : State) : Result := .next (aluCmp (.mem (.abl a)) s)

/-- `CMP (dp),Y`, opcode $D1 (R138, R117). -/
def execCmpIdy (d : Byte) (s : State) : Result := .next (aluCmp (.mem (.idy d)) s)

/-- `CMP (dp)`, opcode $D2 (R138, R115). -/
def execCmpIdp (d : Byte) (s : State) : Result := .next (aluCmp (.mem (.idp d)) s)

/-- `CMP (sr,S),Y`, opcode $D3 (R138, R124). -/
def execCmpIsy (d : Byte) (s : State) : Result := .next (aluCmp (.mem (.isy d)) s)

/-- `CMP dp,X`, opcode $D5 (R138, R113). -/
def execCmpDpx (d : Byte) (s : State) : Result := .next (aluCmp (.mem (.dpx d)) s)

/-- `CMP [dp],Y`, opcode $D7 (R138, R119). -/
def execCmpIly (d : Byte) (s : State) : Result := .next (aluCmp (.mem (.ily d)) s)

/-- `CMP abs,Y`, opcode $D9 (R138, R122). -/
def execCmpAby (a : Word) (s : State) : Result := .next (aluCmp (.mem (.aby a)) s)

/-- `CMP abs,X`, opcode $DD (R138, R121). -/
def execCmpAbx (a : Word) (s : State) : Result := .next (aluCmp (.mem (.abx a)) s)

/-- `CMP long,X`, opcode $DF (R138, R126). -/
def execCmpAlx (a : Addr) (s : State) : Result := .next (aluCmp (.mem (.alx a)) s)

/-! CPX (R139) -/

/-- `CPX #const`, opcode $E0 (R139, R127). -/
def execCpxImm (c : Word) (s : State) : Result := .next (aluCpx (.imm c) s)

/-- `CPX dp`, opcode $E4 (R139, R112). -/
def execCpxDp (d : Byte) (s : State) : Result := .next (aluCpx (.mem (.dp d)) s)

/-- `CPX abs`, opcode $EC (R139, R120). -/
def execCpxAbs (a : Word) (s : State) : Result := .next (aluCpx (.mem (.abs a)) s)

/-! CPY (R140) -/

/-- `CPY #const`, opcode $C0 (R140, R127). -/
def execCpyImm (c : Word) (s : State) : Result := .next (aluCpy (.imm c) s)

/-- `CPY dp`, opcode $C4 (R140, R112). -/
def execCpyDp (d : Byte) (s : State) : Result := .next (aluCpy (.mem (.dp d)) s)

/-- `CPY abs`, opcode $CC (R140, R120). -/
def execCpyAbs (a : Word) (s : State) : Result := .next (aluCpy (.mem (.abs a)) s)

/-! BIT (R141) -/

/-- `BIT dp`, opcode $24 (R141, R112). -/
def execBitDp (d : Byte) (s : State) : Result := .next (aluBit (.dp d) s)

/-- `BIT abs`, opcode $2C (R141, R120). -/
def execBitAbs (a : Word) (s : State) : Result := .next (aluBit (.abs a) s)

/-- `BIT dp,X`, opcode $34 (R141, R113). -/
def execBitDpx (d : Byte) (s : State) : Result := .next (aluBit (.dpx d) s)

/-- `BIT abs,X`, opcode $3C (R141, R121). -/
def execBitAbx (a : Word) (s : State) : Result := .next (aluBit (.abx a) s)

/-- `BIT #const`, opcode $89 (R141, R127). -/
def execBitImm (c : Word) (s : State) : Result := .next (aluBitImm c s)

/-! LDA (R142) -/

/-- `LDA (dp,X)`, opcode $A1 (R142, R116). -/
def execLdaIdx (d : Byte) (s : State) : Result := .next (aluLda (.mem (.idx d)) s)

/-- `LDA sr,S`, opcode $A3 (R142, R123). -/
def execLdaSr (d : Byte) (s : State) : Result := .next (aluLda (.mem (.sr d)) s)

/-- `LDA dp`, opcode $A5 (R142, R112). -/
def execLdaDp (d : Byte) (s : State) : Result := .next (aluLda (.mem (.dp d)) s)

/-- `LDA [dp]`, opcode $A7 (R142, R118). -/
def execLdaIdl (d : Byte) (s : State) : Result := .next (aluLda (.mem (.idl d)) s)

/-- `LDA #const`, opcode $A9 (R142, R127). -/
def execLdaImm (c : Word) (s : State) : Result := .next (aluLda (.imm c) s)

/-- `LDA abs`, opcode $AD (R142, R120). -/
def execLdaAbs (a : Word) (s : State) : Result := .next (aluLda (.mem (.abs a)) s)

/-- `LDA long`, opcode $AF (R142, R125). -/
def execLdaAbl (a : Addr) (s : State) : Result := .next (aluLda (.mem (.abl a)) s)

/-- `LDA (dp),Y`, opcode $B1 (R142, R117). -/
def execLdaIdy (d : Byte) (s : State) : Result := .next (aluLda (.mem (.idy d)) s)

/-- `LDA (dp)`, opcode $B2 (R142, R115). -/
def execLdaIdp (d : Byte) (s : State) : Result := .next (aluLda (.mem (.idp d)) s)

/-- `LDA (sr,S),Y`, opcode $B3 (R142, R124). -/
def execLdaIsy (d : Byte) (s : State) : Result := .next (aluLda (.mem (.isy d)) s)

/-- `LDA dp,X`, opcode $B5 (R142, R113). -/
def execLdaDpx (d : Byte) (s : State) : Result := .next (aluLda (.mem (.dpx d)) s)

/-- `LDA [dp],Y`, opcode $B7 (R142, R119). -/
def execLdaIly (d : Byte) (s : State) : Result := .next (aluLda (.mem (.ily d)) s)

/-- `LDA abs,Y`, opcode $B9 (R142, R122). -/
def execLdaAby (a : Word) (s : State) : Result := .next (aluLda (.mem (.aby a)) s)

/-- `LDA abs,X`, opcode $BD (R142, R121). -/
def execLdaAbx (a : Word) (s : State) : Result := .next (aluLda (.mem (.abx a)) s)

/-- `LDA long,X`, opcode $BF (R142, R126). -/
def execLdaAlx (a : Addr) (s : State) : Result := .next (aluLda (.mem (.alx a)) s)

/-! LDX (R143) -/

/-- `LDX #const`, opcode $A2 (R143, R127). -/
def execLdxImm (c : Word) (s : State) : Result := .next (aluLdx (.imm c) s)

/-- `LDX dp`, opcode $A6 (R143, R112). -/
def execLdxDp (d : Byte) (s : State) : Result := .next (aluLdx (.mem (.dp d)) s)

/-- `LDX abs`, opcode $AE (R143, R120). -/
def execLdxAbs (a : Word) (s : State) : Result := .next (aluLdx (.mem (.abs a)) s)

/-- `LDX dp,Y`, opcode $B6 (R143, R114). -/
def execLdxDpy (d : Byte) (s : State) : Result := .next (aluLdx (.mem (.dpy d)) s)

/-- `LDX abs,Y`, opcode $BE (R143, R122). -/
def execLdxAby (a : Word) (s : State) : Result := .next (aluLdx (.mem (.aby a)) s)

/-! LDY (R144) -/

/-- `LDY #const`, opcode $A0 (R144, R127). -/
def execLdyImm (c : Word) (s : State) : Result := .next (aluLdy (.imm c) s)

/-- `LDY dp`, opcode $A4 (R144, R112). -/
def execLdyDp (d : Byte) (s : State) : Result := .next (aluLdy (.mem (.dp d)) s)

/-- `LDY abs`, opcode $AC (R144, R120). -/
def execLdyAbs (a : Word) (s : State) : Result := .next (aluLdy (.mem (.abs a)) s)

/-- `LDY dp,X`, opcode $B4 (R144, R113). -/
def execLdyDpx (d : Byte) (s : State) : Result := .next (aluLdy (.mem (.dpx d)) s)

/-- `LDY abs,X`, opcode $BC (R144, R121). -/
def execLdyAbx (a : Word) (s : State) : Result := .next (aluLdy (.mem (.abx a)) s)

end Sys2Proof.Machine
end

