-- ==== Sys2Proof/Machine/BlockWait.lean ====
section
/-! DEFINITION. MVN, MVP, WAI and STP (46_block_wait.md). -/

namespace Sys2Proof.Machine

/-- `BlockStep(delta)` (R304), from after the opcode fetch: one byte from `src:X` to `dst:Y`, A decremented in all
sixteen bits, X and Y moved by `delta`, and PC back at the opcode unless A has become $FFFF. -/
def blockStep (delta : Word) (dst src : Byte) (s : State) : State :=
  let s := fetchByte src (fetchByte dst s)
  let s := { s with db := dst }
  let r := busRead (bankAddr src s.x) s
  let s := busWrite (bankAddr dst r.2.y) r.1 r.2
  let s := { s with
    a := s.a - 1
    x := maskW s.fX (s.x + delta)
    y := maskW s.fX (s.y + delta)
    pc := if s.a - 1 = 0xFFFF#16 then s.pc else s.pc - 3 }
  idle (poll (idle s))

/-- `MVN src,dst`, opcode $54 (R300). -/
def execMvn (dst : Byte) (src : Byte) (s : State) : Result := .next (blockStep 1 dst src s)

/-- `MVP src,dst`, opcode $44 (R301). -/
def execMvp (dst : Byte) (src : Byte) (s : State) : Result := .next (blockStep (-1) dst src s)

/-- `WAI`, opcode $CB (R302). -/
def execWai (s : State) : Result := .next (idle (idle { s with waiting := true }))

/-- `STP`, opcode $DB (R303). -/
def execStp (s : State) : Result := .next (idle (idle { s with stopped := true }))

end Sys2Proof.Machine
end

