-- ==== Sys2Proof/Machine/Control.lean ====
section
/-! DEFINITION. Branches, jumps, calls, returns, BRK and COP (45_control_flow.md). No flag changes but where a
definition says so, and K changes only in JML, JSL, RTL, RTI, BRK and COP. -/

namespace Sys2Proof.Machine

/-! Branches -/

/-- The branch template (R260): not taken, poll and fetch the displacement; taken, fetch, poll, one idle, and
`PC <- PC + sext_8(d)` inside bank K. -/
def branchIf (cond : Bool) (disp : Byte) (s : State) : State :=
  if cond then
    let s := idle (poll (fetchByte disp s))
    { s with pc := s.pc + sextByte disp }
  else fetchByte disp (poll s)

/-- BRL (R270). -/
def branchLong (disp : Word) (s : State) : State :=
  let s := fetchWord disp false s
  idle (poll { s with pc := s.pc + disp })

/-- `BPL rel8`, opcode $10 (R261). -/
def execBpl (disp : Byte) (s : State) : Result := .next (branchIf (!s.fN) disp s)

/-- `BMI rel8`, opcode $30 (R262). -/
def execBmi (disp : Byte) (s : State) : Result := .next (branchIf s.fN disp s)

/-- `BVC rel8`, opcode $50 (R263). -/
def execBvc (disp : Byte) (s : State) : Result := .next (branchIf (!s.fV) disp s)

/-- `BVS rel8`, opcode $70 (R264). -/
def execBvs (disp : Byte) (s : State) : Result := .next (branchIf s.fV disp s)

/-- `BCC rel8`, opcode $90 (R265). -/
def execBcc (disp : Byte) (s : State) : Result := .next (branchIf (!s.fC) disp s)

/-- `BCS rel8`, opcode $B0 (R266). -/
def execBcs (disp : Byte) (s : State) : Result := .next (branchIf s.fC disp s)

/-- `BNE rel8`, opcode $D0 (R267). -/
def execBne (disp : Byte) (s : State) : Result := .next (branchIf (!s.fZ) disp s)

/-- `BEQ rel8`, opcode $F0 (R268). -/
def execBeq (disp : Byte) (s : State) : Result := .next (branchIf s.fZ disp s)

/-- `BRA rel8`, opcode $80 (R269). -/
def execBra (disp : Byte) (s : State) : Result := .next (branchIf true disp s)

/-- `BRL rel16`, opcode $82 (R270). -/
def execBrl (disp : Word) (s : State) : Result := .next (branchLong disp s)

/-! Jumps -/

/-- JMP abs (R271). -/
def jumpAbs (a : Word) (s : State) : State := { fetchWord a true s with pc := a }

/-- JML long (R275): the poll is before the bank byte. -/
def jumpLong (a : Addr) (s : State) : State :=
  let s := fetchByte (addrBank a) (poll (fetchWord (addrOffset a) false s))
  { s with pc := addrOffset a, k := addrBank a }

/-- Where JMP (a) reads the high byte of its pointer (R272): in emulation mode a pointer at `$xxFF` takes it from
`$xx00`; otherwise from the next address of bank 0. -/
def jumpPointerHi (e : Bool) (a : Word) : Addr :=
  if e && loByte a == 0xFF#8 then bank0 (mkWord (hiByte a) 0x00#8) else bank0 (a + 1)

/-- JMP (a) (R272). -/
def jumpInd (a : Word) (s : State) : State :=
  let s := fetchWord a false s
  let r := readWord (bank0 a) (jumpPointerHi s.fE a) true s
  { r.2 with pc := r.1 }

/-- The pointer read of JMP (a,X) and JSR (a,X): in bank K, wrapping inside it (R273, R277). -/
def jumpThroughIndexed (a : Word) (s : State) : State :=
  let r := readWord (bankAddr s.k (a + s.x)) (bankAddr s.k (a + s.x + 1)) true s
  { r.2 with pc := r.1 }

/-- JMP (a,X) (R273). -/
def jumpIndexed (a : Word) (s : State) : State := jumpThroughIndexed a (idle (fetchWord a false s))

/-- JML [a] (R274): three bytes in bank 0, the poll before the last. -/
def jumpIndLong (a : Word) (s : State) : State :=
  let r := readWord (bank0 a) (bank0 (a + 1)) false (fetchWord a false s)
  let b := busRead (bank0 (a + 2)) (poll r.2)
  { b.2 with pc := r.1, k := b.1 }

/-- `JMP abs`, opcode $4C (R271). -/
def execJmpAbs (a : Word) (s : State) : Result := .next (jumpAbs a s)

/-- `JMP (abs)`, opcode $6C (R272). -/
def execJmpInd (a : Word) (s : State) : Result := .next (jumpInd a s)

/-- `JMP (abs,X)`, opcode $7C (R273). -/
def execJmpIax (a : Word) (s : State) : Result := .next (jumpIndexed a s)

/-- `JML long`, opcode $5C (R275). -/
def execJmlLong (a : Addr) (s : State) : Result := .next (jumpLong a s)

/-- `JML [abs]`, opcode $DC (R274). -/
def execJmlInd (a : Word) (s : State) : Result := .next (jumpIndLong a s)

/-! Calls -/

/-- JSR abs (R276): the pushed word is the address of the instruction's last byte. -/
def callAbs (a : Word) (s : State) : State :=
  let s := idle (fetchWord a false s)
  { pushWord (s.pc - 1) true s with pc := a }

/-- JSL long (R278): K is pushed before the bank byte is fetched. -/
def callLong (a : Addr) (s : State) : State :=
  let s := fetchWord (addrOffset a) false s
  let stackTop := bank0 s.sp
  let s := idle (pushByte s.k s)
  let b := lateByte [stackTop] (addrBank a) s
  let s := fetchByte b s
  { pushWord (s.pc - 1) true s with pc := addrOffset a, k := b }

/-- JSR (a,X) (R277): the return word is pushed before the second operand byte is fetched. -/
def callIndexed (a : Word) (s : State) : State :=
  let s := fetchByte (loByte a) s
  let written := [bank0 s.sp, bank0 (spDown s)]
  let s := pushWord s.pc false s
  let ah := lateByte written (hiByte a) s
  jumpThroughIndexed (mkWord ah (loByte a)) (idle (fetchByte ah s))

/-- `JSR abs`, opcode $20 (R276). -/
def execJsrAbs (a : Word) (s : State) : Result := .next (callAbs a s)

/-- `JSR (abs,X)`, opcode $FC (R277). -/
def execJsrIax (a : Word) (s : State) : Result := .next (callIndexed a s)

/-- `JSL long`, opcode $22 (R278). -/
def execJsl (a : Addr) (s : State) : Result := .next (callLong a s)

/-! Returns -/

/-- RTS (R279): the pulled word plus 1, then `Poll(); Idle()`. -/
def returnShort (s : State) : State :=
  let r := pullWord false (idle (idle s))
  idle (poll { r.2 with pc := r.1 + 1 })

/-- RTL (R280): the pulled word plus 1, then K. -/
def returnLong (s : State) : State :=
  let r := pullWord false (idle (idle s))
  let b := pullByte (poll { r.2 with pc := r.1 + 1 })
  { b.2 with k := b.1 }

/-- `RTS`, opcode $60 (R279). -/
def execRts (s : State) : Result := .next (returnShort s)

/-- `RTL`, opcode $6B (R280). -/
def execRtl (s : State) : Result := .next (returnLong s)

/-- `RTI`, opcode $40 (R281). -/
def execRti (s : State) : Result := .next (returnFromInterrupt s)

/-! Software interrupts -/

/-- `BRK #sig`, opcode $00 (R282). -/
def execBrk (sig : Byte) (s : State) : Result := .next (softInt .brk sig s)

/-- `COP #sig`, opcode $02 (R283). -/
def execCop (sig : Byte) (s : State) : Result := .next (softInt .cop sig s)

end Sys2Proof.Machine
end

