-- ==== Sys2Proof/Machine/RegFlag.lean ====
section
/-! DEFINITION. The register, flag and mode-switch instructions (43_register_flag.md). Those of tag Imp run
`AdrImp()` first, so that their own poll sees the registers and flags as they were (R180). -/

namespace Sys2Proof.Machine

/-! Flag set and clear -/

/-- `CLC`, opcode $18 (R181, R111). -/
def execClc (s : State) : Result := .next ({ adrImp s with fC := false })

/-- `SEC`, opcode $38 (R182, R111). -/
def execSec (s : State) : Result := .next ({ adrImp s with fC := true })

/-- `CLI`, opcode $58 (R183, R111). -/
def execCli (s : State) : Result := .next ({ adrImp s with fI := false })

/-- `SEI`, opcode $78 (R184, R111). -/
def execSei (s : State) : Result := .next ({ adrImp s with fI := true })

/-- `CLD`, opcode $D8 (R185, R111). -/
def execCld (s : State) : Result := .next ({ adrImp s with fD := false })

/-- `SED`, opcode $F8 (R186, R111). -/
def execSed (s : State) : Result := .next ({ adrImp s with fD := true })

/-- `CLV`, opcode $B8 (R199, R111). -/
def execClv (s : State) : Result := .next ({ adrImp s with fV := false })

/-! Transfers and index arithmetic -/

/-- Put a value into X at the width of flag X, and set N and Z from it (R21, R187). -/
def putX (v : Word) (s : State) : State := setZN (maskW s.fX v) s.fX { s with x := maskW s.fX v }

/-- Put a value into Y at the width of flag X, and set N and Z from it (R22, R188). -/
def putY (v : Word) (s : State) : State := setZN (maskW s.fX v) s.fX { s with y := maskW s.fX v }

/-- Put a value into A at the width of M, and set N and Z from it (R189). -/
def putAccW (v : Word) (s : State) : State := setZN (maskW s.fM v) s.fM (setAccW v s)

/-- Put a value into all sixteen bits of A, N and Z at 16 bits whatever M is (R194, R196). -/
def putAcc16 (v : Word) (s : State) : State := setZN v false { s with a := v }

/-- Put a value into DP, N and Z at 16 bits (R195, R243). -/
def putDp (v : Word) (s : State) : State := setZN v false { s with dp := v }

/-- Put a value into SP, in page $01 when E = 1; no flag changes (R191, R193). -/
def putSp (v : Word) (s : State) : State := { s with sp := coerceSp s.fE v }

/-- `TAX`, opcode $AA (R187, R111). -/
def execTax (s : State) : Result := .next (putX s.a (adrImp s))

/-- `TAY`, opcode $A8 (R188, R111). -/
def execTay (s : State) : Result := .next (putY s.a (adrImp s))

/-- `TXA`, opcode $8A (R189, R111). -/
def execTxa (s : State) : Result := .next (putAccW s.x (adrImp s))

/-- `TYA`, opcode $98 (R190, R111). -/
def execTya (s : State) : Result := .next (putAccW s.y (adrImp s))

/-- `TXY`, opcode $9B (R197, R111). -/
def execTxy (s : State) : Result := .next (putY s.x (adrImp s))

/-- `TYX`, opcode $BB (R198, R111). -/
def execTyx (s : State) : Result := .next (putX s.y (adrImp s))

/-- `TXS`, opcode $9A (R191, R111). -/
def execTxs (s : State) : Result := .next (putSp s.x (adrImp s))

/-- `TSX`, opcode $BA (R192, R111). -/
def execTsx (s : State) : Result := .next (putX s.sp (adrImp s))

/-- `TCS`, opcode $1B (R193, R111). -/
def execTcs (s : State) : Result := .next (putSp s.a (adrImp s))

/-- `TSC`, opcode $3B (R194, R111). -/
def execTsc (s : State) : Result := .next (putAcc16 s.sp (adrImp s))

/-- `TCD`, opcode $5B (R195, R111). -/
def execTcd (s : State) : Result := .next (putDp s.a (adrImp s))

/-- `TDC`, opcode $7B (R196, R111). -/
def execTdc (s : State) : Result := .next (putAcc16 s.dp (adrImp s))

/-- `INX`, opcode $E8 (R200, R111). -/
def execInx (s : State) : Result := .next (putX (s.x + 1) (adrImp s))

/-- `INY`, opcode $C8 (R201, R111). -/
def execIny (s : State) : Result := .next (putY (s.y + 1) (adrImp s))

/-- `DEX`, opcode $CA (R202, R111). -/
def execDex (s : State) : Result := .next (putX (s.x - 1) (adrImp s))

/-- `DEY`, opcode $88 (R203, R111). -/
def execDey (s : State) : Result := .next (putY (s.y - 1) (adrImp s))

/-! XBA, XCE, NOP, WDM, REP, SEP -/

/-- XBA (R204): swap the bytes of A, N and Z from the new low byte whatever M is, then `Idle(); Poll(); Idle()`. -/
def swapAccBytes (s : State) : State :=
  let v := mkWord (loByte s.a) (hiByte s.a)
  idle (poll (idle (setZN v true { s with a := v })))

/-- `XBA`, opcode $EB (R204). -/
def execXba (s : State) : Result := .next (swapAccBytes s)

/-- Entering emulation mode (R205): M and flag X set, SP into page $01, upper bytes of X and Y cleared. -/
def enterEmulation (s : State) : State :=
  { s with fE := true, fM := true, fX := true, sp := pageOne s.sp, x := maskW true s.x, y := maskW true s.y }

/-- Entering native mode (R205, 90_conflicts.md C2): M and flag X cleared. -/
def enterNative (s : State) : State := { s with fE := false, fM := false, fX := false }

/-- XCE (R205): exchange C and E; the mode effects happen only on a change of E (D16). -/
def exchangeCE (s : State) : State :=
  let c := { s with fC := s.fE }
  if s.fE == s.fC then c else if s.fC then enterEmulation c else enterNative c

/-- `XCE`, opcode $FB (R205, R111). -/
def execXce (s : State) : Result := .next (exchangeCE (adrImp s))

/-- `NOP`, opcode $EA (R206, R111). -/
def execNop (s : State) : Result := .next (adrImp s)

/-- `WDM #sig`, opcode $42 (R207). -/
def execWdm (sig : Byte) (s : State) : Result := .next (fetchByte sig (poll s))

/-- REP and SEP (R208, R209): the mask byte, the poll, the flag byte through SetFlags, one idle. -/
def changeFlags (f : Byte → Byte) (mask : Byte) (s : State) : State :=
  let s := poll (fetchByte mask s)
  idle (setFlags (f (getFlags s)) s)

/-- `REP #const8`, opcode $C2 (R208). -/
def execRep (mask : Byte) (s : State) : Result := .next (changeFlags (fun p => p &&& ~~~mask) mask s)

/-- `SEP #const8`, opcode $E2 (R209). -/
def execSep (mask : Byte) (s : State) : Result := .next (changeFlags (fun p => p ||| mask) mask s)

end Sys2Proof.Machine
end

