-- ==== Sys2Proof/Machine/Stack.lean ====
section
/-! DEFINITION. The stack instructions (44_stack.md). The poll is immediately before the last bus cycle in each
of the four shapes of R230. -/

namespace Sys2Proof.Machine

/-- The 8-bit push shape: `Idle(); Poll(); PushByte(b)` (R230). -/
def push8 (b : Byte) (s : State) : State := pushByte b (poll (idle s))

/-- The 16-bit push shape: `Idle(); PushWord(v, true)` (R230). -/
def push16 (v : Word) (s : State) : State := pushWord v true (idle s)

/-- A push at the width of a flag (R231 to R233). -/
def pushSized (w8 : Bool) (v : Word) (s : State) : State := if w8 then push8 (loByte v) s else push16 v s

/-- The 8-bit pull shape: `Idle(); Idle(); Poll(); PullByte()` (R230). -/
def pull8 (s : State) : Byte × State := pullByte (poll (idle (idle s)))

/-- The 16-bit pull shape: `Idle(); Idle(); PullWord(true)` (R230). -/
def pull16 (s : State) : Word × State := pullWord true (idle (idle s))

/-- A pull at the width of a flag (R238 to R240). -/
def pullSized (w8 : Bool) (s : State) : Word × State :=
  if w8 then
    let r := pull8 s
    (zextByte r.1, r.2)
  else pull16 s

/-! Pushes -/

/-- `PHA`, opcode $48 (R231). -/
def execPha (s : State) : Result := .next (pushSized s.fM s.a s)

/-- `PHX`, opcode $DA (R232). -/
def execPhx (s : State) : Result := .next (pushSized s.fX s.x s)

/-- `PHY`, opcode $5A (R233). -/
def execPhy (s : State) : Result := .next (pushSized s.fX s.y s)

/-- `PHP`, opcode $08 (R234). -/
def execPhp (s : State) : Result := .next (push8 (getFlags s) s)

/-- `PHB`, opcode $8B (R235). -/
def execPhb (s : State) : Result := .next (push8 s.db s)

/-- `PHD`, opcode $0B (R236). -/
def execPhd (s : State) : Result := .next (push16 s.dp s)

/-- `PHK`, opcode $4B (R237). -/
def execPhk (s : State) : Result := .next (push8 s.k s)

/-! Pulls -/

/-- Put a pulled value where an instruction puts it. -/
def pullThen {w : Nat} (r : BitVec w × State) (put : BitVec w → State → State) : State := put r.1 r.2

/-- PLB (R242): N and Z of the byte. -/
def putDb (b : Byte) (s : State) : State := setZN (zextByte b) true { s with db := b }

/-- `PLA`, opcode $68 (R238). -/
def execPla (s : State) : Result := .next (pullThen (pullSized s.fM s) putAccW)

/-- `PLX`, opcode $FA (R239). -/
def execPlx (s : State) : Result := .next (pullThen (pullSized s.fX s) putX)

/-- `PLY`, opcode $7A (R240). -/
def execPly (s : State) : Result := .next (pullThen (pullSized s.fX s) putY)

/-- `PLP`, opcode $28 (R241). -/
def execPlp (s : State) : Result := .next (pullThen (pull8 s) setFlags)

/-- `PLB`, opcode $AB (R242). -/
def execPlb (s : State) : Result := .next (pullThen (pull8 s) putDb)

/-- `PLD`, opcode $2B (R243). -/
def execPld (s : State) : Result := .next (pullThen (pull16 s) putDp)

/-! Push effective address -/

/-- PEI (R245): the direct-page word, read without a poll, then pushed. -/
def pushIndirect (d : Byte) (s : State) : State :=
  let p := adrDp d s
  let v := readWord p.1.lo p.1.hi false p.2
  pushWord v.1 true v.2

/-- PER (R246): PC after the instruction plus the displacement, modulo $10000. -/
def pushRelative (disp : Word) (s : State) : State :=
  let s := idle (fetchWord disp false s)
  pushWord (s.pc + disp) true s

/-- `PEA #const16`, opcode $F4 (R244). -/
def execPea (c : Word) (s : State) : Result := .next (pushWord c true (fetchWord c false s))

/-- `PEI (dp)`, opcode $D4 (R245, R112). -/
def execPei (d : Byte) (s : State) : Result := .next (pushIndirect d s)

/-- `PER rel16`, opcode $62 (R246). -/
def execPer (disp : Word) (s : State) : Result := .next (pushRelative disp s)

end Sys2Proof.Machine
end

