-- ==== Sys2Proof/Machine/StoreRmw.lean ====
section
/-! DEFINITION. The stores STA STX STY STZ and the read-modify-write instructions ASL LSR ROL ROR INC DEC TSB TRB,
with the accumulator forms of the first six (42_store_rmw.md): one meaning for each opcode. -/

namespace Sys2Proof.Machine

/-! STA (R151) -/

/-- `STA (dp,X)`, opcode $81 (R151, R116). -/
def execStaIdx (d : Byte) (s : State) : Result := .next (storeData (.idx d) s.a s.fM s)

/-- `STA sr,S`, opcode $83 (R151, R123). -/
def execStaSr (d : Byte) (s : State) : Result := .next (storeData (.sr d) s.a s.fM s)

/-- `STA dp`, opcode $85 (R151, R112). -/
def execStaDp (d : Byte) (s : State) : Result := .next (storeData (.dp d) s.a s.fM s)

/-- `STA [dp]`, opcode $87 (R151, R118). -/
def execStaIdl (d : Byte) (s : State) : Result := .next (storeData (.idl d) s.a s.fM s)

/-- `STA abs`, opcode $8D (R151, R120). -/
def execStaAbs (a : Word) (s : State) : Result := .next (storeData (.abs a) s.a s.fM s)

/-- `STA long`, opcode $8F (R151, R125). -/
def execStaAbl (a : Addr) (s : State) : Result := .next (storeData (.abl a) s.a s.fM s)

/-- `STA (dp),Y`, opcode $91 (R151, R117). -/
def execStaIdy (d : Byte) (s : State) : Result := .next (storeData (.idy d) s.a s.fM s)

/-- `STA (dp)`, opcode $92 (R151, R115). -/
def execStaIdp (d : Byte) (s : State) : Result := .next (storeData (.idp d) s.a s.fM s)

/-- `STA (sr,S),Y`, opcode $93 (R151, R124). -/
def execStaIsy (d : Byte) (s : State) : Result := .next (storeData (.isy d) s.a s.fM s)

/-- `STA dp,X`, opcode $95 (R151, R113). -/
def execStaDpx (d : Byte) (s : State) : Result := .next (storeData (.dpx d) s.a s.fM s)

/-- `STA [dp],Y`, opcode $97 (R151, R119). -/
def execStaIly (d : Byte) (s : State) : Result := .next (storeData (.ily d) s.a s.fM s)

/-- `STA abs,Y`, opcode $99 (R151, R122). -/
def execStaAby (a : Word) (s : State) : Result := .next (storeData (.aby a) s.a s.fM s)

/-- `STA abs,X`, opcode $9D (R151, R121). -/
def execStaAbx (a : Word) (s : State) : Result := .next (storeData (.abx a) s.a s.fM s)

/-- `STA long,X`, opcode $9F (R151, R126). -/
def execStaAlx (a : Addr) (s : State) : Result := .next (storeData (.alx a) s.a s.fM s)

/-! STX (R152) -/

/-- `STX dp`, opcode $86 (R152, R112). -/
def execStxDp (d : Byte) (s : State) : Result := .next (storeData (.dp d) s.x s.fX s)

/-- `STX abs`, opcode $8E (R152, R120). -/
def execStxAbs (a : Word) (s : State) : Result := .next (storeData (.abs a) s.x s.fX s)

/-- `STX dp,Y`, opcode $96 (R152, R114). -/
def execStxDpy (d : Byte) (s : State) : Result := .next (storeData (.dpy d) s.x s.fX s)

/-! STY (R153) -/

/-- `STY dp`, opcode $84 (R153, R112). -/
def execStyDp (d : Byte) (s : State) : Result := .next (storeData (.dp d) s.y s.fX s)

/-- `STY abs`, opcode $8C (R153, R120). -/
def execStyAbs (a : Word) (s : State) : Result := .next (storeData (.abs a) s.y s.fX s)

/-- `STY dp,X`, opcode $94 (R153, R113). -/
def execStyDpx (d : Byte) (s : State) : Result := .next (storeData (.dpx d) s.y s.fX s)

/-! STZ (R154) -/

/-- `STZ dp`, opcode $64 (R154, R112). -/
def execStzDp (d : Byte) (s : State) : Result := .next (storeData (.dp d) 0#16 s.fM s)

/-- `STZ dp,X`, opcode $74 (R154, R113). -/
def execStzDpx (d : Byte) (s : State) : Result := .next (storeData (.dpx d) 0#16 s.fM s)

/-- `STZ abs`, opcode $9C (R154, R120). -/
def execStzAbs (a : Word) (s : State) : Result := .next (storeData (.abs a) 0#16 s.fM s)

/-- `STZ abs,X`, opcode $9E (R154, R121). -/
def execStzAbx (a : Word) (s : State) : Result := .next (storeData (.abx a) 0#16 s.fM s)

/-! ASL (R156) -/

/-- `ASL dp`, opcode $06 (R156, R112). -/
def execAslDp (d : Byte) (s : State) : Result := .next (rmwMem rmwAsl (.dp d) s)

/-- `ASL A`, opcode $0A (R156, R111). -/
def execAslAcc (s : State) : Result := .next (rmwAcc rmwAsl s)

/-- `ASL abs`, opcode $0E (R156, R120). -/
def execAslAbs (a : Word) (s : State) : Result := .next (rmwMem rmwAsl (.abs a) s)

/-- `ASL dp,X`, opcode $16 (R156, R113). -/
def execAslDpx (d : Byte) (s : State) : Result := .next (rmwMem rmwAsl (.dpx d) s)

/-- `ASL abs,X`, opcode $1E (R156, R121). -/
def execAslAbx (a : Word) (s : State) : Result := .next (rmwMem rmwAsl (.abx a) s)

/-! LSR (R157) -/

/-- `LSR dp`, opcode $46 (R157, R112). -/
def execLsrDp (d : Byte) (s : State) : Result := .next (rmwMem rmwLsr (.dp d) s)

/-- `LSR A`, opcode $4A (R157, R111). -/
def execLsrAcc (s : State) : Result := .next (rmwAcc rmwLsr s)

/-- `LSR abs`, opcode $4E (R157, R120). -/
def execLsrAbs (a : Word) (s : State) : Result := .next (rmwMem rmwLsr (.abs a) s)

/-- `LSR dp,X`, opcode $56 (R157, R113). -/
def execLsrDpx (d : Byte) (s : State) : Result := .next (rmwMem rmwLsr (.dpx d) s)

/-- `LSR abs,X`, opcode $5E (R157, R121). -/
def execLsrAbx (a : Word) (s : State) : Result := .next (rmwMem rmwLsr (.abx a) s)

/-! ROL (R158) -/

/-- `ROL dp`, opcode $26 (R158, R112). -/
def execRolDp (d : Byte) (s : State) : Result := .next (rmwMem rmwRol (.dp d) s)

/-- `ROL A`, opcode $2A (R158, R111). -/
def execRolAcc (s : State) : Result := .next (rmwAcc rmwRol s)

/-- `ROL abs`, opcode $2E (R158, R120). -/
def execRolAbs (a : Word) (s : State) : Result := .next (rmwMem rmwRol (.abs a) s)

/-- `ROL dp,X`, opcode $36 (R158, R113). -/
def execRolDpx (d : Byte) (s : State) : Result := .next (rmwMem rmwRol (.dpx d) s)

/-- `ROL abs,X`, opcode $3E (R158, R121). -/
def execRolAbx (a : Word) (s : State) : Result := .next (rmwMem rmwRol (.abx a) s)

/-! ROR (R159) -/

/-- `ROR dp`, opcode $66 (R159, R112). -/
def execRorDp (d : Byte) (s : State) : Result := .next (rmwMem rmwRor (.dp d) s)

/-- `ROR A`, opcode $6A (R159, R111). -/
def execRorAcc (s : State) : Result := .next (rmwAcc rmwRor s)

/-- `ROR abs`, opcode $6E (R159, R120). -/
def execRorAbs (a : Word) (s : State) : Result := .next (rmwMem rmwRor (.abs a) s)

/-- `ROR dp,X`, opcode $76 (R159, R113). -/
def execRorDpx (d : Byte) (s : State) : Result := .next (rmwMem rmwRor (.dpx d) s)

/-- `ROR abs,X`, opcode $7E (R159, R121). -/
def execRorAbx (a : Word) (s : State) : Result := .next (rmwMem rmwRor (.abx a) s)

/-! INC (R160) -/

/-- `INC A`, opcode $1A (R160, R111). -/
def execIncAcc (s : State) : Result := .next (rmwAcc rmwInc s)

/-- `INC dp`, opcode $E6 (R160, R112). -/
def execIncDp (d : Byte) (s : State) : Result := .next (rmwMem rmwInc (.dp d) s)

/-- `INC abs`, opcode $EE (R160, R120). -/
def execIncAbs (a : Word) (s : State) : Result := .next (rmwMem rmwInc (.abs a) s)

/-- `INC dp,X`, opcode $F6 (R160, R113). -/
def execIncDpx (d : Byte) (s : State) : Result := .next (rmwMem rmwInc (.dpx d) s)

/-- `INC abs,X`, opcode $FE (R160, R121). -/
def execIncAbx (a : Word) (s : State) : Result := .next (rmwMem rmwInc (.abx a) s)

/-! DEC (R161) -/

/-- `DEC A`, opcode $3A (R161, R111). -/
def execDecAcc (s : State) : Result := .next (rmwAcc rmwDec s)

/-- `DEC dp`, opcode $C6 (R161, R112). -/
def execDecDp (d : Byte) (s : State) : Result := .next (rmwMem rmwDec (.dp d) s)

/-- `DEC abs`, opcode $CE (R161, R120). -/
def execDecAbs (a : Word) (s : State) : Result := .next (rmwMem rmwDec (.abs a) s)

/-- `DEC dp,X`, opcode $D6 (R161, R113). -/
def execDecDpx (d : Byte) (s : State) : Result := .next (rmwMem rmwDec (.dpx d) s)

/-- `DEC abs,X`, opcode $DE (R161, R121). -/
def execDecAbx (a : Word) (s : State) : Result := .next (rmwMem rmwDec (.abx a) s)

/-! TSB (R162) -/

/-- `TSB dp`, opcode $04 (R162, R112). -/
def execTsbDp (d : Byte) (s : State) : Result := .next (rmwMem rmwTsb (.dp d) s)

/-- `TSB abs`, opcode $0C (R162, R120). -/
def execTsbAbs (a : Word) (s : State) : Result := .next (rmwMem rmwTsb (.abs a) s)

/-! TRB (R163) -/

/-- `TRB dp`, opcode $14 (R163, R112). -/
def execTrbDp (d : Byte) (s : State) : Result := .next (rmwMem rmwTrb (.dp d) s)

/-- `TRB abs`, opcode $1C (R163, R120). -/
def execTrbAbs (a : Word) (s : State) : Result := .next (rmwMem rmwTrb (.abs a) s)

end Sys2Proof.Machine
end

