-- ==== Sys2Proof/Machine/Dispatch.lean ====
section
/-! DEFINITION. One instruction, from after its opcode fetch to its end (60_exceptions.md R317, the last line). -/

namespace Sys2Proof.Machine

def exec (i : Instr) (s : State) : Host.Outcome State Fault Refusal :=
  match i with
  | .brk sig => Sys2Proof.Machine.execBrk sig s
  | .oraIdx d => Sys2Proof.Machine.execOraIdx d s
  | .cop sig => Sys2Proof.Machine.execCop sig s
  | .oraSr d => Sys2Proof.Machine.execOraSr d s
  | .tsbDp d => Sys2Proof.Machine.execTsbDp d s
  | .oraDp d => Sys2Proof.Machine.execOraDp d s
  | .aslDp d => Sys2Proof.Machine.execAslDp d s
  | .oraIdl d => Sys2Proof.Machine.execOraIdl d s
  | .php => Sys2Proof.Machine.execPhp s
  | .oraImm c => Sys2Proof.Machine.execOraImm c s
  | .aslAcc => Sys2Proof.Machine.execAslAcc s
  | .phd => Sys2Proof.Machine.execPhd s
  | .tsbAbs a => Sys2Proof.Machine.execTsbAbs a s
  | .oraAbs a => Sys2Proof.Machine.execOraAbs a s
  | .aslAbs a => Sys2Proof.Machine.execAslAbs a s
  | .oraAbl a => Sys2Proof.Machine.execOraAbl a s
  | .bpl disp => Sys2Proof.Machine.execBpl disp s
  | .oraIdy d => Sys2Proof.Machine.execOraIdy d s
  | .oraIdp d => Sys2Proof.Machine.execOraIdp d s
  | .oraIsy d => Sys2Proof.Machine.execOraIsy d s
  | .trbDp d => Sys2Proof.Machine.execTrbDp d s
  | .oraDpx d => Sys2Proof.Machine.execOraDpx d s
  | .aslDpx d => Sys2Proof.Machine.execAslDpx d s
  | .oraIly d => Sys2Proof.Machine.execOraIly d s
  | .clc => Sys2Proof.Machine.execClc s
  | .oraAby a => Sys2Proof.Machine.execOraAby a s
  | .incAcc => Sys2Proof.Machine.execIncAcc s
  | .tcs => Sys2Proof.Machine.execTcs s
  | .trbAbs a => Sys2Proof.Machine.execTrbAbs a s
  | .oraAbx a => Sys2Proof.Machine.execOraAbx a s
  | .aslAbx a => Sys2Proof.Machine.execAslAbx a s
  | .oraAlx a => Sys2Proof.Machine.execOraAlx a s
  | .jsrAbs a => Sys2Proof.Machine.execJsrAbs a s
  | .andIdx d => Sys2Proof.Machine.execAndIdx d s
  | .jsl a => Sys2Proof.Machine.execJsl a s
  | .andSr d => Sys2Proof.Machine.execAndSr d s
  | .bitDp d => Sys2Proof.Machine.execBitDp d s
  | .andDp d => Sys2Proof.Machine.execAndDp d s
  | .rolDp d => Sys2Proof.Machine.execRolDp d s
  | .andIdl d => Sys2Proof.Machine.execAndIdl d s
  | .plp => Sys2Proof.Machine.execPlp s
  | .andImm c => Sys2Proof.Machine.execAndImm c s
  | .rolAcc => Sys2Proof.Machine.execRolAcc s
  | .pld => Sys2Proof.Machine.execPld s
  | .bitAbs a => Sys2Proof.Machine.execBitAbs a s
  | .andAbs a => Sys2Proof.Machine.execAndAbs a s
  | .rolAbs a => Sys2Proof.Machine.execRolAbs a s
  | .andAbl a => Sys2Proof.Machine.execAndAbl a s
  | .bmi disp => Sys2Proof.Machine.execBmi disp s
  | .andIdy d => Sys2Proof.Machine.execAndIdy d s
  | .andIdp d => Sys2Proof.Machine.execAndIdp d s
  | .andIsy d => Sys2Proof.Machine.execAndIsy d s
  | .bitDpx d => Sys2Proof.Machine.execBitDpx d s
  | .andDpx d => Sys2Proof.Machine.execAndDpx d s
  | .rolDpx d => Sys2Proof.Machine.execRolDpx d s
  | .andIly d => Sys2Proof.Machine.execAndIly d s
  | .sec => Sys2Proof.Machine.execSec s
  | .andAby a => Sys2Proof.Machine.execAndAby a s
  | .decAcc => Sys2Proof.Machine.execDecAcc s
  | .tsc => Sys2Proof.Machine.execTsc s
  | .bitAbx a => Sys2Proof.Machine.execBitAbx a s
  | .andAbx a => Sys2Proof.Machine.execAndAbx a s
  | .rolAbx a => Sys2Proof.Machine.execRolAbx a s
  | .andAlx a => Sys2Proof.Machine.execAndAlx a s
  | .rti => Sys2Proof.Machine.execRti s
  | .eorIdx d => Sys2Proof.Machine.execEorIdx d s
  | .wdm sig => Sys2Proof.Machine.execWdm sig s
  | .eorSr d => Sys2Proof.Machine.execEorSr d s
  | .mvp dst src => Sys2Proof.Machine.execMvp dst src s
  | .eorDp d => Sys2Proof.Machine.execEorDp d s
  | .lsrDp d => Sys2Proof.Machine.execLsrDp d s
  | .eorIdl d => Sys2Proof.Machine.execEorIdl d s
  | .pha => Sys2Proof.Machine.execPha s
  | .eorImm c => Sys2Proof.Machine.execEorImm c s
  | .lsrAcc => Sys2Proof.Machine.execLsrAcc s
  | .phk => Sys2Proof.Machine.execPhk s
  | .jmpAbs a => Sys2Proof.Machine.execJmpAbs a s
  | .eorAbs a => Sys2Proof.Machine.execEorAbs a s
  | .lsrAbs a => Sys2Proof.Machine.execLsrAbs a s
  | .eorAbl a => Sys2Proof.Machine.execEorAbl a s
  | .bvc disp => Sys2Proof.Machine.execBvc disp s
  | .eorIdy d => Sys2Proof.Machine.execEorIdy d s
  | .eorIdp d => Sys2Proof.Machine.execEorIdp d s
  | .eorIsy d => Sys2Proof.Machine.execEorIsy d s
  | .mvn dst src => Sys2Proof.Machine.execMvn dst src s
  | .eorDpx d => Sys2Proof.Machine.execEorDpx d s
  | .lsrDpx d => Sys2Proof.Machine.execLsrDpx d s
  | .eorIly d => Sys2Proof.Machine.execEorIly d s
  | .cli => Sys2Proof.Machine.execCli s
  | .eorAby a => Sys2Proof.Machine.execEorAby a s
  | .phy => Sys2Proof.Machine.execPhy s
  | .tcd => Sys2Proof.Machine.execTcd s
  | .jmlLong a => Sys2Proof.Machine.execJmlLong a s
  | .eorAbx a => Sys2Proof.Machine.execEorAbx a s
  | .lsrAbx a => Sys2Proof.Machine.execLsrAbx a s
  | .eorAlx a => Sys2Proof.Machine.execEorAlx a s
  | .rts => Sys2Proof.Machine.execRts s
  | .adcIdx d => Sys2Proof.Machine.execAdcIdx d s
  | .per disp => Sys2Proof.Machine.execPer disp s
  | .adcSr d => Sys2Proof.Machine.execAdcSr d s
  | .stzDp d => Sys2Proof.Machine.execStzDp d s
  | .adcDp d => Sys2Proof.Machine.execAdcDp d s
  | .rorDp d => Sys2Proof.Machine.execRorDp d s
  | .adcIdl d => Sys2Proof.Machine.execAdcIdl d s
  | .pla => Sys2Proof.Machine.execPla s
  | .adcImm c => Sys2Proof.Machine.execAdcImm c s
  | .rorAcc => Sys2Proof.Machine.execRorAcc s
  | .rtl => Sys2Proof.Machine.execRtl s
  | .jmpInd a => Sys2Proof.Machine.execJmpInd a s
  | .adcAbs a => Sys2Proof.Machine.execAdcAbs a s
  | .rorAbs a => Sys2Proof.Machine.execRorAbs a s
  | .adcAbl a => Sys2Proof.Machine.execAdcAbl a s
  | .bvs disp => Sys2Proof.Machine.execBvs disp s
  | .adcIdy d => Sys2Proof.Machine.execAdcIdy d s
  | .adcIdp d => Sys2Proof.Machine.execAdcIdp d s
  | .adcIsy d => Sys2Proof.Machine.execAdcIsy d s
  | .stzDpx d => Sys2Proof.Machine.execStzDpx d s
  | .adcDpx d => Sys2Proof.Machine.execAdcDpx d s
  | .rorDpx d => Sys2Proof.Machine.execRorDpx d s
  | .adcIly d => Sys2Proof.Machine.execAdcIly d s
  | .sei => Sys2Proof.Machine.execSei s
  | .adcAby a => Sys2Proof.Machine.execAdcAby a s
  | .ply => Sys2Proof.Machine.execPly s
  | .tdc => Sys2Proof.Machine.execTdc s
  | .jmpIax a => Sys2Proof.Machine.execJmpIax a s
  | .adcAbx a => Sys2Proof.Machine.execAdcAbx a s
  | .rorAbx a => Sys2Proof.Machine.execRorAbx a s
  | .adcAlx a => Sys2Proof.Machine.execAdcAlx a s
  | .bra disp => Sys2Proof.Machine.execBra disp s
  | .staIdx d => Sys2Proof.Machine.execStaIdx d s
  | .brl disp => Sys2Proof.Machine.execBrl disp s
  | .staSr d => Sys2Proof.Machine.execStaSr d s
  | .styDp d => Sys2Proof.Machine.execStyDp d s
  | .staDp d => Sys2Proof.Machine.execStaDp d s
  | .stxDp d => Sys2Proof.Machine.execStxDp d s
  | .staIdl d => Sys2Proof.Machine.execStaIdl d s
  | .dey => Sys2Proof.Machine.execDey s
  | .bitImm c => Sys2Proof.Machine.execBitImm c s
  | .txa => Sys2Proof.Machine.execTxa s
  | .phb => Sys2Proof.Machine.execPhb s
  | .styAbs a => Sys2Proof.Machine.execStyAbs a s
  | .staAbs a => Sys2Proof.Machine.execStaAbs a s
  | .stxAbs a => Sys2Proof.Machine.execStxAbs a s
  | .staAbl a => Sys2Proof.Machine.execStaAbl a s
  | .bcc disp => Sys2Proof.Machine.execBcc disp s
  | .staIdy d => Sys2Proof.Machine.execStaIdy d s
  | .staIdp d => Sys2Proof.Machine.execStaIdp d s
  | .staIsy d => Sys2Proof.Machine.execStaIsy d s
  | .styDpx d => Sys2Proof.Machine.execStyDpx d s
  | .staDpx d => Sys2Proof.Machine.execStaDpx d s
  | .stxDpy d => Sys2Proof.Machine.execStxDpy d s
  | .staIly d => Sys2Proof.Machine.execStaIly d s
  | .tya => Sys2Proof.Machine.execTya s
  | .staAby a => Sys2Proof.Machine.execStaAby a s
  | .txs => Sys2Proof.Machine.execTxs s
  | .txy => Sys2Proof.Machine.execTxy s
  | .stzAbs a => Sys2Proof.Machine.execStzAbs a s
  | .staAbx a => Sys2Proof.Machine.execStaAbx a s
  | .stzAbx a => Sys2Proof.Machine.execStzAbx a s
  | .staAlx a => Sys2Proof.Machine.execStaAlx a s
  | .ldyImm c => Sys2Proof.Machine.execLdyImm c s
  | .ldaIdx d => Sys2Proof.Machine.execLdaIdx d s
  | .ldxImm c => Sys2Proof.Machine.execLdxImm c s
  | .ldaSr d => Sys2Proof.Machine.execLdaSr d s
  | .ldyDp d => Sys2Proof.Machine.execLdyDp d s
  | .ldaDp d => Sys2Proof.Machine.execLdaDp d s
  | .ldxDp d => Sys2Proof.Machine.execLdxDp d s
  | .ldaIdl d => Sys2Proof.Machine.execLdaIdl d s
  | .tay => Sys2Proof.Machine.execTay s
  | .ldaImm c => Sys2Proof.Machine.execLdaImm c s
  | .tax => Sys2Proof.Machine.execTax s
  | .plb => Sys2Proof.Machine.execPlb s
  | .ldyAbs a => Sys2Proof.Machine.execLdyAbs a s
  | .ldaAbs a => Sys2Proof.Machine.execLdaAbs a s
  | .ldxAbs a => Sys2Proof.Machine.execLdxAbs a s
  | .ldaAbl a => Sys2Proof.Machine.execLdaAbl a s
  | .bcs disp => Sys2Proof.Machine.execBcs disp s
  | .ldaIdy d => Sys2Proof.Machine.execLdaIdy d s
  | .ldaIdp d => Sys2Proof.Machine.execLdaIdp d s
  | .ldaIsy d => Sys2Proof.Machine.execLdaIsy d s
  | .ldyDpx d => Sys2Proof.Machine.execLdyDpx d s
  | .ldaDpx d => Sys2Proof.Machine.execLdaDpx d s
  | .ldxDpy d => Sys2Proof.Machine.execLdxDpy d s
  | .ldaIly d => Sys2Proof.Machine.execLdaIly d s
  | .clv => Sys2Proof.Machine.execClv s
  | .ldaAby a => Sys2Proof.Machine.execLdaAby a s
  | .tsx => Sys2Proof.Machine.execTsx s
  | .tyx => Sys2Proof.Machine.execTyx s
  | .ldyAbx a => Sys2Proof.Machine.execLdyAbx a s
  | .ldaAbx a => Sys2Proof.Machine.execLdaAbx a s
  | .ldxAby a => Sys2Proof.Machine.execLdxAby a s
  | .ldaAlx a => Sys2Proof.Machine.execLdaAlx a s
  | .cpyImm c => Sys2Proof.Machine.execCpyImm c s
  | .cmpIdx d => Sys2Proof.Machine.execCmpIdx d s
  | .rep mask => Sys2Proof.Machine.execRep mask s
  | .cmpSr d => Sys2Proof.Machine.execCmpSr d s
  | .cpyDp d => Sys2Proof.Machine.execCpyDp d s
  | .cmpDp d => Sys2Proof.Machine.execCmpDp d s
  | .decDp d => Sys2Proof.Machine.execDecDp d s
  | .cmpIdl d => Sys2Proof.Machine.execCmpIdl d s
  | .iny => Sys2Proof.Machine.execIny s
  | .cmpImm c => Sys2Proof.Machine.execCmpImm c s
  | .dex => Sys2Proof.Machine.execDex s
  | .wai => Sys2Proof.Machine.execWai s
  | .cpyAbs a => Sys2Proof.Machine.execCpyAbs a s
  | .cmpAbs a => Sys2Proof.Machine.execCmpAbs a s
  | .decAbs a => Sys2Proof.Machine.execDecAbs a s
  | .cmpAbl a => Sys2Proof.Machine.execCmpAbl a s
  | .bne disp => Sys2Proof.Machine.execBne disp s
  | .cmpIdy d => Sys2Proof.Machine.execCmpIdy d s
  | .cmpIdp d => Sys2Proof.Machine.execCmpIdp d s
  | .cmpIsy d => Sys2Proof.Machine.execCmpIsy d s
  | .pei d => Sys2Proof.Machine.execPei d s
  | .cmpDpx d => Sys2Proof.Machine.execCmpDpx d s
  | .decDpx d => Sys2Proof.Machine.execDecDpx d s
  | .cmpIly d => Sys2Proof.Machine.execCmpIly d s
  | .cld => Sys2Proof.Machine.execCld s
  | .cmpAby a => Sys2Proof.Machine.execCmpAby a s
  | .phx => Sys2Proof.Machine.execPhx s
  | .stp => Sys2Proof.Machine.execStp s
  | .jmlInd a => Sys2Proof.Machine.execJmlInd a s
  | .cmpAbx a => Sys2Proof.Machine.execCmpAbx a s
  | .decAbx a => Sys2Proof.Machine.execDecAbx a s
  | .cmpAlx a => Sys2Proof.Machine.execCmpAlx a s
  | .cpxImm c => Sys2Proof.Machine.execCpxImm c s
  | .sbcIdx d => Sys2Proof.Machine.execSbcIdx d s
  | .sep mask => Sys2Proof.Machine.execSep mask s
  | .sbcSr d => Sys2Proof.Machine.execSbcSr d s
  | .cpxDp d => Sys2Proof.Machine.execCpxDp d s
  | .sbcDp d => Sys2Proof.Machine.execSbcDp d s
  | .incDp d => Sys2Proof.Machine.execIncDp d s
  | .sbcIdl d => Sys2Proof.Machine.execSbcIdl d s
  | .inx => Sys2Proof.Machine.execInx s
  | .sbcImm c => Sys2Proof.Machine.execSbcImm c s
  | .nop => Sys2Proof.Machine.execNop s
  | .xba => Sys2Proof.Machine.execXba s
  | .cpxAbs a => Sys2Proof.Machine.execCpxAbs a s
  | .sbcAbs a => Sys2Proof.Machine.execSbcAbs a s
  | .incAbs a => Sys2Proof.Machine.execIncAbs a s
  | .sbcAbl a => Sys2Proof.Machine.execSbcAbl a s
  | .beq disp => Sys2Proof.Machine.execBeq disp s
  | .sbcIdy d => Sys2Proof.Machine.execSbcIdy d s
  | .sbcIdp d => Sys2Proof.Machine.execSbcIdp d s
  | .sbcIsy d => Sys2Proof.Machine.execSbcIsy d s
  | .pea c => Sys2Proof.Machine.execPea c s
  | .sbcDpx d => Sys2Proof.Machine.execSbcDpx d s
  | .incDpx d => Sys2Proof.Machine.execIncDpx d s
  | .sbcIly d => Sys2Proof.Machine.execSbcIly d s
  | .sed => Sys2Proof.Machine.execSed s
  | .sbcAby a => Sys2Proof.Machine.execSbcAby a s
  | .plx => Sys2Proof.Machine.execPlx s
  | .xce => Sys2Proof.Machine.execXce s
  | .jsrIax a => Sys2Proof.Machine.execJsrIax a s
  | .sbcAbx a => Sys2Proof.Machine.execSbcAbx a s
  | .incAbx a => Sys2Proof.Machine.execIncAbx a s
  | .sbcAlx a => Sys2Proof.Machine.execSbcAlx a s

end Sys2Proof.Machine
end

