-- ==== Sys2Proof/Machine/Table.lean ====
section
/-! DEFINITION. The columns of the opcode map (30_encoding.md R96) that say what a row is: its mnemonic,
its format, and its data operand where it has one. -/

namespace Sys2Proof.Machine

/-- The mnemonic column of R96. -/
def mnemonicOf : Instr → Mnemonic
  | .brk _ => .brk
  | .oraIdx _ | .oraSr _ | .oraDp _ | .oraIdl _ | .oraImm _ | .oraAbs _ | .oraAbl _ | .oraIdy _
  | .oraIdp _ | .oraIsy _ | .oraDpx _ | .oraIly _ | .oraAby _ | .oraAbx _ | .oraAlx _ => .ora
  | .cop _ => .cop
  | .tsbDp _ | .tsbAbs _ => .tsb
  | .aslDp _ | .aslAcc | .aslAbs _ | .aslDpx _ | .aslAbx _ => .asl
  | .php => .php
  | .phd => .phd
  | .bpl _ => .bpl
  | .trbDp _ | .trbAbs _ => .trb
  | .clc => .clc
  | .incAcc | .incDp _ | .incAbs _ | .incDpx _ | .incAbx _ => .inc
  | .tcs => .tcs
  | .jsrAbs _ | .jsrIax _ => .jsr
  | .andIdx _ | .andSr _ | .andDp _ | .andIdl _ | .andImm _ | .andAbs _ | .andAbl _ | .andIdy _
  | .andIdp _ | .andIsy _ | .andDpx _ | .andIly _ | .andAby _ | .andAbx _ | .andAlx _ => .and
  | .jsl _ => .jsl
  | .bitDp _ | .bitAbs _ | .bitDpx _ | .bitAbx _ | .bitImm _ => .bit
  | .rolDp _ | .rolAcc | .rolAbs _ | .rolDpx _ | .rolAbx _ => .rol
  | .plp => .plp
  | .pld => .pld
  | .bmi _ => .bmi
  | .sec => .sec
  | .decAcc | .decDp _ | .decAbs _ | .decDpx _ | .decAbx _ => .dec
  | .tsc => .tsc
  | .rti => .rti
  | .eorIdx _ | .eorSr _ | .eorDp _ | .eorIdl _ | .eorImm _ | .eorAbs _ | .eorAbl _ | .eorIdy _
  | .eorIdp _ | .eorIsy _ | .eorDpx _ | .eorIly _ | .eorAby _ | .eorAbx _ | .eorAlx _ => .eor
  | .wdm _ => .wdm
  | .mvp _ _ => .mvp
  | .lsrDp _ | .lsrAcc | .lsrAbs _ | .lsrDpx _ | .lsrAbx _ => .lsr
  | .pha => .pha
  | .phk => .phk
  | .jmpAbs _ | .jmpInd _ | .jmpIax _ => .jmp
  | .bvc _ => .bvc
  | .mvn _ _ => .mvn
  | .cli => .cli
  | .phy => .phy
  | .tcd => .tcd
  | .jmlLong _ | .jmlInd _ => .jml
  | .rts => .rts
  | .adcIdx _ | .adcSr _ | .adcDp _ | .adcIdl _ | .adcImm _ | .adcAbs _ | .adcAbl _ | .adcIdy _
  | .adcIdp _ | .adcIsy _ | .adcDpx _ | .adcIly _ | .adcAby _ | .adcAbx _ | .adcAlx _ => .adc
  | .per _ => .per
  | .stzDp _ | .stzDpx _ | .stzAbs _ | .stzAbx _ => .stz
  | .rorDp _ | .rorAcc | .rorAbs _ | .rorDpx _ | .rorAbx _ => .ror
  | .pla => .pla
  | .rtl => .rtl
  | .bvs _ => .bvs
  | .sei => .sei
  | .ply => .ply
  | .tdc => .tdc
  | .bra _ => .bra
  | .staIdx _ | .staSr _ | .staDp _ | .staIdl _ | .staAbs _ | .staAbl _ | .staIdy _ | .staIdp _
  | .staIsy _ | .staDpx _ | .staIly _ | .staAby _ | .staAbx _ | .staAlx _ => .sta
  | .brl _ => .brl
  | .styDp _ | .styAbs _ | .styDpx _ => .sty
  | .stxDp _ | .stxAbs _ | .stxDpy _ => .stx
  | .dey => .dey
  | .txa => .txa
  | .phb => .phb
  | .bcc _ => .bcc
  | .tya => .tya
  | .txs => .txs
  | .txy => .txy
  | .ldyImm _ | .ldyDp _ | .ldyAbs _ | .ldyDpx _ | .ldyAbx _ => .ldy
  | .ldaIdx _ | .ldaSr _ | .ldaDp _ | .ldaIdl _ | .ldaImm _ | .ldaAbs _ | .ldaAbl _ | .ldaIdy _
  | .ldaIdp _ | .ldaIsy _ | .ldaDpx _ | .ldaIly _ | .ldaAby _ | .ldaAbx _ | .ldaAlx _ => .lda
  | .ldxImm _ | .ldxDp _ | .ldxAbs _ | .ldxDpy _ | .ldxAby _ => .ldx
  | .tay => .tay
  | .tax => .tax
  | .plb => .plb
  | .bcs _ => .bcs
  | .clv => .clv
  | .tsx => .tsx
  | .tyx => .tyx
  | .cpyImm _ | .cpyDp _ | .cpyAbs _ => .cpy
  | .cmpIdx _ | .cmpSr _ | .cmpDp _ | .cmpIdl _ | .cmpImm _ | .cmpAbs _ | .cmpAbl _ | .cmpIdy _
  | .cmpIdp _ | .cmpIsy _ | .cmpDpx _ | .cmpIly _ | .cmpAby _ | .cmpAbx _ | .cmpAlx _ => .cmp
  | .rep _ => .rep
  | .iny => .iny
  | .dex => .dex
  | .wai => .wai
  | .bne _ => .bne
  | .pei _ => .pei
  | .cld => .cld
  | .phx => .phx
  | .stp => .stp
  | .cpxImm _ | .cpxDp _ | .cpxAbs _ => .cpx
  | .sbcIdx _ | .sbcSr _ | .sbcDp _ | .sbcIdl _ | .sbcImm _ | .sbcAbs _ | .sbcAbl _ | .sbcIdy _
  | .sbcIdp _ | .sbcIsy _ | .sbcDpx _ | .sbcIly _ | .sbcAby _ | .sbcAbx _ | .sbcAlx _ => .sbc
  | .sep _ => .sep
  | .inx => .inx
  | .nop => .nop
  | .xba => .xba
  | .beq _ => .beq
  | .pea _ => .pea
  | .sed => .sed
  | .plx => .plx
  | .xce => .xce

/-- The format column of R96 (the formats are those of R91). -/
def formatOf : Instr → Format
  | .php | .aslAcc | .phd | .clc | .incAcc | .tcs | .plp | .rolAcc | .pld | .sec | .decAcc | .tsc
  | .rti | .pha | .lsrAcc | .phk | .cli | .phy | .tcd | .rts | .pla | .rorAcc | .rtl | .sei | .ply
  | .tdc | .dey | .txa | .phb | .tya | .txs | .txy | .tay | .tax | .plb | .clv | .tsx | .tyx | .iny
  | .dex | .wai | .cld | .phx | .stp | .inx | .nop | .xba | .sed | .plx | .xce => .f1
  | .brk _ | .oraIdx _ | .cop _ | .oraSr _ | .tsbDp _ | .oraDp _ | .aslDp _ | .oraIdl _ | .bpl _
  | .oraIdy _ | .oraIdp _ | .oraIsy _ | .trbDp _ | .oraDpx _ | .aslDpx _ | .oraIly _ | .andIdx _
  | .andSr _ | .bitDp _ | .andDp _ | .rolDp _ | .andIdl _ | .bmi _ | .andIdy _ | .andIdp _ | .andIsy _
  | .bitDpx _ | .andDpx _ | .rolDpx _ | .andIly _ | .eorIdx _ | .wdm _ | .eorSr _ | .eorDp _ | .lsrDp _
  | .eorIdl _ | .bvc _ | .eorIdy _ | .eorIdp _ | .eorIsy _ | .eorDpx _ | .lsrDpx _ | .eorIly _
  | .adcIdx _ | .adcSr _ | .stzDp _ | .adcDp _ | .rorDp _ | .adcIdl _ | .bvs _ | .adcIdy _ | .adcIdp _
  | .adcIsy _ | .stzDpx _ | .adcDpx _ | .rorDpx _ | .adcIly _ | .bra _ | .staIdx _ | .staSr _
  | .styDp _ | .staDp _ | .stxDp _ | .staIdl _ | .bcc _ | .staIdy _ | .staIdp _ | .staIsy _ | .styDpx _
  | .staDpx _ | .stxDpy _ | .staIly _ | .ldaIdx _ | .ldaSr _ | .ldyDp _ | .ldaDp _ | .ldxDp _
  | .ldaIdl _ | .bcs _ | .ldaIdy _ | .ldaIdp _ | .ldaIsy _ | .ldyDpx _ | .ldaDpx _ | .ldxDpy _
  | .ldaIly _ | .cmpIdx _ | .rep _ | .cmpSr _ | .cpyDp _ | .cmpDp _ | .decDp _ | .cmpIdl _ | .bne _
  | .cmpIdy _ | .cmpIdp _ | .cmpIsy _ | .pei _ | .cmpDpx _ | .decDpx _ | .cmpIly _ | .sbcIdx _ | .sep _
  | .sbcSr _ | .cpxDp _ | .sbcDp _ | .incDp _ | .sbcIdl _ | .beq _ | .sbcIdy _ | .sbcIdp _ | .sbcIsy _
  | .sbcDpx _ | .incDpx _ | .sbcIly _ => .f2
  | .tsbAbs _ | .oraAbs _ | .aslAbs _ | .oraAby _ | .trbAbs _ | .oraAbx _ | .aslAbx _ | .jsrAbs _
  | .bitAbs _ | .andAbs _ | .rolAbs _ | .andAby _ | .bitAbx _ | .andAbx _ | .rolAbx _ | .jmpAbs _
  | .eorAbs _ | .lsrAbs _ | .eorAby _ | .eorAbx _ | .lsrAbx _ | .per _ | .jmpInd _ | .adcAbs _
  | .rorAbs _ | .adcAby _ | .jmpIax _ | .adcAbx _ | .rorAbx _ | .brl _ | .styAbs _ | .staAbs _
  | .stxAbs _ | .staAby _ | .stzAbs _ | .staAbx _ | .stzAbx _ | .ldyAbs _ | .ldaAbs _ | .ldxAbs _
  | .ldaAby _ | .ldyAbx _ | .ldaAbx _ | .ldxAby _ | .cpyAbs _ | .cmpAbs _ | .decAbs _ | .cmpAby _
  | .jmlInd _ | .cmpAbx _ | .decAbx _ | .cpxAbs _ | .sbcAbs _ | .incAbs _ | .pea _ | .sbcAby _
  | .jsrIax _ | .sbcAbx _ | .incAbx _ => .f3
  | .oraAbl _ | .oraAlx _ | .jsl _ | .andAbl _ | .andAlx _ | .eorAbl _ | .jmlLong _ | .eorAlx _
  | .adcAbl _ | .adcAlx _ | .staAbl _ | .staAlx _ | .ldaAbl _ | .ldaAlx _ | .cmpAbl _ | .cmpAlx _
  | .sbcAbl _ | .sbcAlx _ => .f4
  | .oraImm _ | .andImm _ | .eorImm _ | .adcImm _ | .bitImm _ | .ldaImm _ | .cmpImm _ | .sbcImm _ => .fm
  | .ldyImm _ | .ldxImm _ | .cpyImm _ | .cpxImm _ => .fx
  | .mvp _ _ | .mvn _ _ => .fb

/-- The data operand: the mode column of R96 for the rows whose mode is one of the calculators but Imp
(R112 to R127); `none` for the implied, accumulator, stack, jump, branch and other inline forms (R128). -/
def operandOf : Instr → Option Operand
  | .oraIdx d => some (.mem (.idx d))
  | .oraSr d => some (.mem (.sr d))
  | .tsbDp d => some (.mem (.dp d))
  | .oraDp d => some (.mem (.dp d))
  | .aslDp d => some (.mem (.dp d))
  | .oraIdl d => some (.mem (.idl d))
  | .oraImm c => some (.imm c)
  | .tsbAbs a => some (.mem (.abs a))
  | .oraAbs a => some (.mem (.abs a))
  | .aslAbs a => some (.mem (.abs a))
  | .oraAbl a => some (.mem (.abl a))
  | .oraIdy d => some (.mem (.idy d))
  | .oraIdp d => some (.mem (.idp d))
  | .oraIsy d => some (.mem (.isy d))
  | .trbDp d => some (.mem (.dp d))
  | .oraDpx d => some (.mem (.dpx d))
  | .aslDpx d => some (.mem (.dpx d))
  | .oraIly d => some (.mem (.ily d))
  | .oraAby a => some (.mem (.aby a))
  | .trbAbs a => some (.mem (.abs a))
  | .oraAbx a => some (.mem (.abx a))
  | .aslAbx a => some (.mem (.abx a))
  | .oraAlx a => some (.mem (.alx a))
  | .andIdx d => some (.mem (.idx d))
  | .andSr d => some (.mem (.sr d))
  | .bitDp d => some (.mem (.dp d))
  | .andDp d => some (.mem (.dp d))
  | .rolDp d => some (.mem (.dp d))
  | .andIdl d => some (.mem (.idl d))
  | .andImm c => some (.imm c)
  | .bitAbs a => some (.mem (.abs a))
  | .andAbs a => some (.mem (.abs a))
  | .rolAbs a => some (.mem (.abs a))
  | .andAbl a => some (.mem (.abl a))
  | .andIdy d => some (.mem (.idy d))
  | .andIdp d => some (.mem (.idp d))
  | .andIsy d => some (.mem (.isy d))
  | .bitDpx d => some (.mem (.dpx d))
  | .andDpx d => some (.mem (.dpx d))
  | .rolDpx d => some (.mem (.dpx d))
  | .andIly d => some (.mem (.ily d))
  | .andAby a => some (.mem (.aby a))
  | .bitAbx a => some (.mem (.abx a))
  | .andAbx a => some (.mem (.abx a))
  | .rolAbx a => some (.mem (.abx a))
  | .andAlx a => some (.mem (.alx a))
  | .eorIdx d => some (.mem (.idx d))
  | .eorSr d => some (.mem (.sr d))
  | .eorDp d => some (.mem (.dp d))
  | .lsrDp d => some (.mem (.dp d))
  | .eorIdl d => some (.mem (.idl d))
  | .eorImm c => some (.imm c)
  | .eorAbs a => some (.mem (.abs a))
  | .lsrAbs a => some (.mem (.abs a))
  | .eorAbl a => some (.mem (.abl a))
  | .eorIdy d => some (.mem (.idy d))
  | .eorIdp d => some (.mem (.idp d))
  | .eorIsy d => some (.mem (.isy d))
  | .eorDpx d => some (.mem (.dpx d))
  | .lsrDpx d => some (.mem (.dpx d))
  | .eorIly d => some (.mem (.ily d))
  | .eorAby a => some (.mem (.aby a))
  | .eorAbx a => some (.mem (.abx a))
  | .lsrAbx a => some (.mem (.abx a))
  | .eorAlx a => some (.mem (.alx a))
  | .adcIdx d => some (.mem (.idx d))
  | .adcSr d => some (.mem (.sr d))
  | .stzDp d => some (.mem (.dp d))
  | .adcDp d => some (.mem (.dp d))
  | .rorDp d => some (.mem (.dp d))
  | .adcIdl d => some (.mem (.idl d))
  | .adcImm c => some (.imm c)
  | .adcAbs a => some (.mem (.abs a))
  | .rorAbs a => some (.mem (.abs a))
  | .adcAbl a => some (.mem (.abl a))
  | .adcIdy d => some (.mem (.idy d))
  | .adcIdp d => some (.mem (.idp d))
  | .adcIsy d => some (.mem (.isy d))
  | .stzDpx d => some (.mem (.dpx d))
  | .adcDpx d => some (.mem (.dpx d))
  | .rorDpx d => some (.mem (.dpx d))
  | .adcIly d => some (.mem (.ily d))
  | .adcAby a => some (.mem (.aby a))
  | .adcAbx a => some (.mem (.abx a))
  | .rorAbx a => some (.mem (.abx a))
  | .adcAlx a => some (.mem (.alx a))
  | .staIdx d => some (.mem (.idx d))
  | .staSr d => some (.mem (.sr d))
  | .styDp d => some (.mem (.dp d))
  | .staDp d => some (.mem (.dp d))
  | .stxDp d => some (.mem (.dp d))
  | .staIdl d => some (.mem (.idl d))
  | .bitImm c => some (.imm c)
  | .styAbs a => some (.mem (.abs a))
  | .staAbs a => some (.mem (.abs a))
  | .stxAbs a => some (.mem (.abs a))
  | .staAbl a => some (.mem (.abl a))
  | .staIdy d => some (.mem (.idy d))
  | .staIdp d => some (.mem (.idp d))
  | .staIsy d => some (.mem (.isy d))
  | .styDpx d => some (.mem (.dpx d))
  | .staDpx d => some (.mem (.dpx d))
  | .stxDpy d => some (.mem (.dpy d))
  | .staIly d => some (.mem (.ily d))
  | .staAby a => some (.mem (.aby a))
  | .stzAbs a => some (.mem (.abs a))
  | .staAbx a => some (.mem (.abx a))
  | .stzAbx a => some (.mem (.abx a))
  | .staAlx a => some (.mem (.alx a))
  | .ldyImm c => some (.imm c)
  | .ldaIdx d => some (.mem (.idx d))
  | .ldxImm c => some (.imm c)
  | .ldaSr d => some (.mem (.sr d))
  | .ldyDp d => some (.mem (.dp d))
  | .ldaDp d => some (.mem (.dp d))
  | .ldxDp d => some (.mem (.dp d))
  | .ldaIdl d => some (.mem (.idl d))
  | .ldaImm c => some (.imm c)
  | .ldyAbs a => some (.mem (.abs a))
  | .ldaAbs a => some (.mem (.abs a))
  | .ldxAbs a => some (.mem (.abs a))
  | .ldaAbl a => some (.mem (.abl a))
  | .ldaIdy d => some (.mem (.idy d))
  | .ldaIdp d => some (.mem (.idp d))
  | .ldaIsy d => some (.mem (.isy d))
  | .ldyDpx d => some (.mem (.dpx d))
  | .ldaDpx d => some (.mem (.dpx d))
  | .ldxDpy d => some (.mem (.dpy d))
  | .ldaIly d => some (.mem (.ily d))
  | .ldaAby a => some (.mem (.aby a))
  | .ldyAbx a => some (.mem (.abx a))
  | .ldaAbx a => some (.mem (.abx a))
  | .ldxAby a => some (.mem (.aby a))
  | .ldaAlx a => some (.mem (.alx a))
  | .cpyImm c => some (.imm c)
  | .cmpIdx d => some (.mem (.idx d))
  | .cmpSr d => some (.mem (.sr d))
  | .cpyDp d => some (.mem (.dp d))
  | .cmpDp d => some (.mem (.dp d))
  | .decDp d => some (.mem (.dp d))
  | .cmpIdl d => some (.mem (.idl d))
  | .cmpImm c => some (.imm c)
  | .cpyAbs a => some (.mem (.abs a))
  | .cmpAbs a => some (.mem (.abs a))
  | .decAbs a => some (.mem (.abs a))
  | .cmpAbl a => some (.mem (.abl a))
  | .cmpIdy d => some (.mem (.idy d))
  | .cmpIdp d => some (.mem (.idp d))
  | .cmpIsy d => some (.mem (.isy d))
  | .pei d => some (.mem (.dp d))
  | .cmpDpx d => some (.mem (.dpx d))
  | .decDpx d => some (.mem (.dpx d))
  | .cmpIly d => some (.mem (.ily d))
  | .cmpAby a => some (.mem (.aby a))
  | .cmpAbx a => some (.mem (.abx a))
  | .decAbx a => some (.mem (.abx a))
  | .cmpAlx a => some (.mem (.alx a))
  | .cpxImm c => some (.imm c)
  | .sbcIdx d => some (.mem (.idx d))
  | .sbcSr d => some (.mem (.sr d))
  | .cpxDp d => some (.mem (.dp d))
  | .sbcDp d => some (.mem (.dp d))
  | .incDp d => some (.mem (.dp d))
  | .sbcIdl d => some (.mem (.idl d))
  | .sbcImm c => some (.imm c)
  | .cpxAbs a => some (.mem (.abs a))
  | .sbcAbs a => some (.mem (.abs a))
  | .incAbs a => some (.mem (.abs a))
  | .sbcAbl a => some (.mem (.abl a))
  | .sbcIdy d => some (.mem (.idy d))
  | .sbcIdp d => some (.mem (.idp d))
  | .sbcIsy d => some (.mem (.isy d))
  | .sbcDpx d => some (.mem (.dpx d))
  | .incDpx d => some (.mem (.dpx d))
  | .sbcIly d => some (.mem (.ily d))
  | .sbcAby a => some (.mem (.aby a))
  | .sbcAbx a => some (.mem (.abx a))
  | .incAbx a => some (.mem (.abx a))
  | .sbcAlx a => some (.mem (.alx a))
  | .brk _ | .cop _ | .php | .aslAcc | .phd | .bpl _ | .clc | .incAcc | .tcs | .jsrAbs _ | .jsl _
  | .plp | .rolAcc | .pld | .bmi _ | .sec | .decAcc | .tsc | .rti | .wdm _ | .mvp _ _ | .pha | .lsrAcc
  | .phk | .jmpAbs _ | .bvc _ | .mvn _ _ | .cli | .phy | .tcd | .jmlLong _ | .rts | .per _ | .pla
  | .rorAcc | .rtl | .jmpInd _ | .bvs _ | .sei | .ply | .tdc | .jmpIax _ | .bra _ | .brl _ | .dey
  | .txa | .phb | .bcc _ | .tya | .txs | .txy | .tay | .tax | .plb | .bcs _ | .clv | .tsx | .tyx
  | .rep _ | .iny | .dex | .wai | .bne _ | .cld | .phx | .stp | .jmlInd _ | .sep _ | .inx | .nop | .xba
  | .beq _ | .pea _ | .sed | .plx | .xce | .jsrIax _ => none

/-- The number of bytes of an instruction of a format, opcode included, under flags M and X (R91, R93). -/
def formatLength (m x : Bool) : Format → Nat
  | .f1 => 1
  | .f2 => 2
  | .f3 => 3
  | .f4 => 4
  | .fm => if m then 2 else 3
  | .fx => if x then 2 else 3
  | .fb => 3

/-- The length of an instruction in bytes under flags M and X (R91, R94). -/
def instrLength (m x : Bool) (i : Instr) : Nat := formatLength m x (formatOf i)

end Sys2Proof.Machine
end

