-- ==== Sys2Proof/WellFormed.lean ====
section
/-! DEFINITION. When an instruction term is one that the encoding can hold. Every other operand has exactly
the width of its field, so the only check is that of the flag-sized immediates (30_encoding.md R93). -/

namespace Sys2Proof

/-- Does an immediate fit the width its flag gives: one byte when the flag is 1 (R92, R93)? -/
def immFits (w8 : Bool) : Option Operand → Bool
  | some (.imm c) => !w8 || Machine.hiByte c == 0x00#8
  | some (.mem _) => true
  | none => true

/-- Well-formed under flags M and X: an FM immediate fits the width of M, an FX immediate that of flag X. -/
def Instr.wf (m x : Bool) (i : Instr) : Bool :=
  match Machine.formatOf i with
  | .fm => immFits m (Machine.operandOf i)
  | .fx => immFits x (Machine.operandOf i)
  | .f1 | .f2 | .f3 | .f4 | .fb => true

end Sys2Proof
end

