-- ==== Sys2Proof/Decode.lean ====
section
/-! DEFINITION. The decoder and the encoder (30_encoding.md R90 to R105). Decoding is a function of the
bytes, flag M and flag X (R94); it is total, and rejects by name only a byte list that ends too early.
`decodeRow0` to `decodeRowF` are the sixteen rows of the matrix of R96, read by the low nibble. -/

namespace Sys2Proof

/-- Why a list of bytes is no instruction. No opcode is illegal (R97), so the only reason is a list that
ends before the instruction does. The step never meets either: it reads every byte it needs from the bus. -/
inductive DecodeError where
  /-- The list is empty. -/
  | noOpcode
  /-- The list ends before the last operand byte of the instruction with this opcode. -/
  | truncated (opcode : Byte)
deriving DecidableEq, Repr

/-- The three bytes that follow an opcode (R90), in ascending order. -/
structure OperandBytes where
  b1 : Byte
  b2 : Byte
  b3 : Byte
deriving DecidableEq, Repr

/-- The 16-bit operand `byte1 | (byte2 << 8)` (R92). -/
def OperandBytes.word (b : OperandBytes) : Word := Machine.mkWord b.b2 b.b1

/-- The 24-bit operand `byte1 | (byte2 << 8) | (byte3 << 16)` (R92). -/
def OperandBytes.long (b : OperandBytes) : Addr := Machine.bankAddr b.b3 b.word

/-- A flag-sized immediate: one byte when the flag is 1, two otherwise (R92, R93). -/
def OperandBytes.imm (b : OperandBytes) (w8 : Bool) : Word := if w8 then Machine.zextByte b.b1 else b.word

/-- Row $0x of the opcode map (R96), by the low nibble. -/
def decodeRow0 (m _x : Bool) (b : OperandBytes) : Nat → Instr
  | 0x0 => .brk b.b1
  | 0x1 => .oraIdx b.b1
  | 0x2 => .cop b.b1
  | 0x3 => .oraSr b.b1
  | 0x4 => .tsbDp b.b1
  | 0x5 => .oraDp b.b1
  | 0x6 => .aslDp b.b1
  | 0x7 => .oraIdl b.b1
  | 0x8 => .php
  | 0x9 => .oraImm (b.imm m)
  | 0xA => .aslAcc
  | 0xB => .phd
  | 0xC => .tsbAbs b.word
  | 0xD => .oraAbs b.word
  | 0xE => .aslAbs b.word
  | _ => .oraAbl b.long

/-- Row $1x of the opcode map (R96), by the low nibble. -/
def decodeRow1 (_m _x : Bool) (b : OperandBytes) : Nat → Instr
  | 0x0 => .bpl b.b1
  | 0x1 => .oraIdy b.b1
  | 0x2 => .oraIdp b.b1
  | 0x3 => .oraIsy b.b1
  | 0x4 => .trbDp b.b1
  | 0x5 => .oraDpx b.b1
  | 0x6 => .aslDpx b.b1
  | 0x7 => .oraIly b.b1
  | 0x8 => .clc
  | 0x9 => .oraAby b.word
  | 0xA => .incAcc
  | 0xB => .tcs
  | 0xC => .trbAbs b.word
  | 0xD => .oraAbx b.word
  | 0xE => .aslAbx b.word
  | _ => .oraAlx b.long

/-- Row $2x of the opcode map (R96), by the low nibble. -/
def decodeRow2 (m _x : Bool) (b : OperandBytes) : Nat → Instr
  | 0x0 => .jsrAbs b.word
  | 0x1 => .andIdx b.b1
  | 0x2 => .jsl b.long
  | 0x3 => .andSr b.b1
  | 0x4 => .bitDp b.b1
  | 0x5 => .andDp b.b1
  | 0x6 => .rolDp b.b1
  | 0x7 => .andIdl b.b1
  | 0x8 => .plp
  | 0x9 => .andImm (b.imm m)
  | 0xA => .rolAcc
  | 0xB => .pld
  | 0xC => .bitAbs b.word
  | 0xD => .andAbs b.word
  | 0xE => .rolAbs b.word
  | _ => .andAbl b.long

/-- Row $3x of the opcode map (R96), by the low nibble. -/
def decodeRow3 (_m _x : Bool) (b : OperandBytes) : Nat → Instr
  | 0x0 => .bmi b.b1
  | 0x1 => .andIdy b.b1
  | 0x2 => .andIdp b.b1
  | 0x3 => .andIsy b.b1
  | 0x4 => .bitDpx b.b1
  | 0x5 => .andDpx b.b1
  | 0x6 => .rolDpx b.b1
  | 0x7 => .andIly b.b1
  | 0x8 => .sec
  | 0x9 => .andAby b.word
  | 0xA => .decAcc
  | 0xB => .tsc
  | 0xC => .bitAbx b.word
  | 0xD => .andAbx b.word
  | 0xE => .rolAbx b.word
  | _ => .andAlx b.long

/-- Row $4x of the opcode map (R96), by the low nibble. -/
def decodeRow4 (m _x : Bool) (b : OperandBytes) : Nat → Instr
  | 0x0 => .rti
  | 0x1 => .eorIdx b.b1
  | 0x2 => .wdm b.b1
  | 0x3 => .eorSr b.b1
  | 0x4 => .mvp b.b1 b.b2
  | 0x5 => .eorDp b.b1
  | 0x6 => .lsrDp b.b1
  | 0x7 => .eorIdl b.b1
  | 0x8 => .pha
  | 0x9 => .eorImm (b.imm m)
  | 0xA => .lsrAcc
  | 0xB => .phk
  | 0xC => .jmpAbs b.word
  | 0xD => .eorAbs b.word
  | 0xE => .lsrAbs b.word
  | _ => .eorAbl b.long

/-- Row $5x of the opcode map (R96), by the low nibble. -/
def decodeRow5 (_m _x : Bool) (b : OperandBytes) : Nat → Instr
  | 0x0 => .bvc b.b1
  | 0x1 => .eorIdy b.b1
  | 0x2 => .eorIdp b.b1
  | 0x3 => .eorIsy b.b1
  | 0x4 => .mvn b.b1 b.b2
  | 0x5 => .eorDpx b.b1
  | 0x6 => .lsrDpx b.b1
  | 0x7 => .eorIly b.b1
  | 0x8 => .cli
  | 0x9 => .eorAby b.word
  | 0xA => .phy
  | 0xB => .tcd
  | 0xC => .jmlLong b.long
  | 0xD => .eorAbx b.word
  | 0xE => .lsrAbx b.word
  | _ => .eorAlx b.long

/-- Row $6x of the opcode map (R96), by the low nibble. -/
def decodeRow6 (m _x : Bool) (b : OperandBytes) : Nat → Instr
  | 0x0 => .rts
  | 0x1 => .adcIdx b.b1
  | 0x2 => .per b.word
  | 0x3 => .adcSr b.b1
  | 0x4 => .stzDp b.b1
  | 0x5 => .adcDp b.b1
  | 0x6 => .rorDp b.b1
  | 0x7 => .adcIdl b.b1
  | 0x8 => .pla
  | 0x9 => .adcImm (b.imm m)
  | 0xA => .rorAcc
  | 0xB => .rtl
  | 0xC => .jmpInd b.word
  | 0xD => .adcAbs b.word
  | 0xE => .rorAbs b.word
  | _ => .adcAbl b.long

/-- Row $7x of the opcode map (R96), by the low nibble. -/
def decodeRow7 (_m _x : Bool) (b : OperandBytes) : Nat → Instr
  | 0x0 => .bvs b.b1
  | 0x1 => .adcIdy b.b1
  | 0x2 => .adcIdp b.b1
  | 0x3 => .adcIsy b.b1
  | 0x4 => .stzDpx b.b1
  | 0x5 => .adcDpx b.b1
  | 0x6 => .rorDpx b.b1
  | 0x7 => .adcIly b.b1
  | 0x8 => .sei
  | 0x9 => .adcAby b.word
  | 0xA => .ply
  | 0xB => .tdc
  | 0xC => .jmpIax b.word
  | 0xD => .adcAbx b.word
  | 0xE => .rorAbx b.word
  | _ => .adcAlx b.long

/-- Row $8x of the opcode map (R96), by the low nibble. -/
def decodeRow8 (m _x : Bool) (b : OperandBytes) : Nat → Instr
  | 0x0 => .bra b.b1
  | 0x1 => .staIdx b.b1
  | 0x2 => .brl b.word
  | 0x3 => .staSr b.b1
  | 0x4 => .styDp b.b1
  | 0x5 => .staDp b.b1
  | 0x6 => .stxDp b.b1
  | 0x7 => .staIdl b.b1
  | 0x8 => .dey
  | 0x9 => .bitImm (b.imm m)
  | 0xA => .txa
  | 0xB => .phb
  | 0xC => .styAbs b.word
  | 0xD => .staAbs b.word
  | 0xE => .stxAbs b.word
  | _ => .staAbl b.long

/-- Row $9x of the opcode map (R96), by the low nibble. -/
def decodeRow9 (_m _x : Bool) (b : OperandBytes) : Nat → Instr
  | 0x0 => .bcc b.b1
  | 0x1 => .staIdy b.b1
  | 0x2 => .staIdp b.b1
  | 0x3 => .staIsy b.b1
  | 0x4 => .styDpx b.b1
  | 0x5 => .staDpx b.b1
  | 0x6 => .stxDpy b.b1
  | 0x7 => .staIly b.b1
  | 0x8 => .tya
  | 0x9 => .staAby b.word
  | 0xA => .txs
  | 0xB => .txy
  | 0xC => .stzAbs b.word
  | 0xD => .staAbx b.word
  | 0xE => .stzAbx b.word
  | _ => .staAlx b.long

/-- Row $Ax of the opcode map (R96), by the low nibble. -/
def decodeRowA (m x : Bool) (b : OperandBytes) : Nat → Instr
  | 0x0 => .ldyImm (b.imm x)
  | 0x1 => .ldaIdx b.b1
  | 0x2 => .ldxImm (b.imm x)
  | 0x3 => .ldaSr b.b1
  | 0x4 => .ldyDp b.b1
  | 0x5 => .ldaDp b.b1
  | 0x6 => .ldxDp b.b1
  | 0x7 => .ldaIdl b.b1
  | 0x8 => .tay
  | 0x9 => .ldaImm (b.imm m)
  | 0xA => .tax
  | 0xB => .plb
  | 0xC => .ldyAbs b.word
  | 0xD => .ldaAbs b.word
  | 0xE => .ldxAbs b.word
  | _ => .ldaAbl b.long

/-- Row $Bx of the opcode map (R96), by the low nibble. -/
def decodeRowB (_m _x : Bool) (b : OperandBytes) : Nat → Instr
  | 0x0 => .bcs b.b1
  | 0x1 => .ldaIdy b.b1
  | 0x2 => .ldaIdp b.b1
  | 0x3 => .ldaIsy b.b1
  | 0x4 => .ldyDpx b.b1
  | 0x5 => .ldaDpx b.b1
  | 0x6 => .ldxDpy b.b1
  | 0x7 => .ldaIly b.b1
  | 0x8 => .clv
  | 0x9 => .ldaAby b.word
  | 0xA => .tsx
  | 0xB => .tyx
  | 0xC => .ldyAbx b.word
  | 0xD => .ldaAbx b.word
  | 0xE => .ldxAby b.word
  | _ => .ldaAlx b.long

/-- Row $Cx of the opcode map (R96), by the low nibble. -/
def decodeRowC (m x : Bool) (b : OperandBytes) : Nat → Instr
  | 0x0 => .cpyImm (b.imm x)
  | 0x1 => .cmpIdx b.b1
  | 0x2 => .rep b.b1
  | 0x3 => .cmpSr b.b1
  | 0x4 => .cpyDp b.b1
  | 0x5 => .cmpDp b.b1
  | 0x6 => .decDp b.b1
  | 0x7 => .cmpIdl b.b1
  | 0x8 => .iny
  | 0x9 => .cmpImm (b.imm m)
  | 0xA => .dex
  | 0xB => .wai
  | 0xC => .cpyAbs b.word
  | 0xD => .cmpAbs b.word
  | 0xE => .decAbs b.word
  | _ => .cmpAbl b.long

/-- Row $Dx of the opcode map (R96), by the low nibble. -/
def decodeRowD (_m _x : Bool) (b : OperandBytes) : Nat → Instr
  | 0x0 => .bne b.b1
  | 0x1 => .cmpIdy b.b1
  | 0x2 => .cmpIdp b.b1
  | 0x3 => .cmpIsy b.b1
  | 0x4 => .pei b.b1
  | 0x5 => .cmpDpx b.b1
  | 0x6 => .decDpx b.b1
  | 0x7 => .cmpIly b.b1
  | 0x8 => .cld
  | 0x9 => .cmpAby b.word
  | 0xA => .phx
  | 0xB => .stp
  | 0xC => .jmlInd b.word
  | 0xD => .cmpAbx b.word
  | 0xE => .decAbx b.word
  | _ => .cmpAlx b.long

/-- Row $Ex of the opcode map (R96), by the low nibble. -/
def decodeRowE (m x : Bool) (b : OperandBytes) : Nat → Instr
  | 0x0 => .cpxImm (b.imm x)
  | 0x1 => .sbcIdx b.b1
  | 0x2 => .sep b.b1
  | 0x3 => .sbcSr b.b1
  | 0x4 => .cpxDp b.b1
  | 0x5 => .sbcDp b.b1
  | 0x6 => .incDp b.b1
  | 0x7 => .sbcIdl b.b1
  | 0x8 => .inx
  | 0x9 => .sbcImm (b.imm m)
  | 0xA => .nop
  | 0xB => .xba
  | 0xC => .cpxAbs b.word
  | 0xD => .sbcAbs b.word
  | 0xE => .incAbs b.word
  | _ => .sbcAbl b.long

/-- Row $Fx of the opcode map (R96), by the low nibble. -/
def decodeRowF (_m _x : Bool) (b : OperandBytes) : Nat → Instr
  | 0x0 => .beq b.b1
  | 0x1 => .sbcIdy b.b1
  | 0x2 => .sbcIdp b.b1
  | 0x3 => .sbcIsy b.b1
  | 0x4 => .pea b.word
  | 0x5 => .sbcDpx b.b1
  | 0x6 => .incDpx b.b1
  | 0x7 => .sbcIly b.b1
  | 0x8 => .sed
  | 0x9 => .sbcAby b.word
  | 0xA => .plx
  | 0xB => .xce
  | 0xC => .jsrIax b.word
  | 0xD => .sbcAbx b.word
  | 0xE => .incAbx b.word
  | _ => .sbcAlx b.long

/-- The instruction with a given opcode and operand bytes under flags M and X (R94, R96): the high nibble
selects the row, the low nibble the column. Bytes past the instruction's length are not looked at. -/
def decodeOp (m x : Bool) (op : Byte) (b : OperandBytes) : Instr :=
  match op.toNat / 16 with
  | 0x0 => decodeRow0 m x b (op.toNat % 16)
  | 0x1 => decodeRow1 m x b (op.toNat % 16)
  | 0x2 => decodeRow2 m x b (op.toNat % 16)
  | 0x3 => decodeRow3 m x b (op.toNat % 16)
  | 0x4 => decodeRow4 m x b (op.toNat % 16)
  | 0x5 => decodeRow5 m x b (op.toNat % 16)
  | 0x6 => decodeRow6 m x b (op.toNat % 16)
  | 0x7 => decodeRow7 m x b (op.toNat % 16)
  | 0x8 => decodeRow8 m x b (op.toNat % 16)
  | 0x9 => decodeRow9 m x b (op.toNat % 16)
  | 0xA => decodeRowA m x b (op.toNat % 16)
  | 0xB => decodeRowB m x b (op.toNat % 16)
  | 0xC => decodeRowC m x b (op.toNat % 16)
  | 0xD => decodeRowD m x b (op.toNat % 16)
  | 0xE => decodeRowE m x b (op.toNat % 16)
  | _ => decodeRowF m x b (op.toNat % 16)

/-- Decode the instruction at the head of a byte list, and return it with the bytes after it (R90, R94). -/
def decode (m x : Bool) : List Byte → Except DecodeError (Instr × List Byte)
  | [] => .error .noOpcode
  | op :: rest =>
    let i := decodeOp m x op ⟨rest.getD 0 0, rest.getD 1 0, rest.getD 2 0⟩
    let n := Machine.instrLength m x i - 1
    if rest.length < n then .error (.truncated op) else .ok (i, rest.drop n)

/-- A flag-sized immediate as bytes, low byte first (R63, R93). -/
def immBytes (w8 : Bool) (c : Word) : List Byte :=
  if w8 then [Machine.loByte c] else [Machine.loByte c, Machine.hiByte c]

/-- An instruction of format F2 with opcode `op`. -/
def encByte (op d : Byte) : List Byte := [op, d]

/-- An instruction of format F3, its 16-bit operand low byte first (R63, R91). -/
def encWord (op : Byte) (a : Word) : List Byte := [op, Machine.loByte a, Machine.hiByte a]

/-- An instruction of format F4, its 24-bit operand low byte first (R63, R91). -/
def encLong (op : Byte) (a : Addr) : List Byte :=
  [op, Machine.loByte (Machine.addrOffset a), Machine.hiByte (Machine.addrOffset a), Machine.addrBank a]

/-- The bytes of an instruction, at ascending addresses, under flags M and X (R91, R96). MVN and MVP have
the destination bank first (R91 format FB). -/
def encode (m x : Bool) : Instr → List Byte
  | .brk sig => encByte 0x00#8 sig
  | .oraIdx d => encByte 0x01#8 d
  | .cop sig => encByte 0x02#8 sig
  | .oraSr d => encByte 0x03#8 d
  | .tsbDp d => encByte 0x04#8 d
  | .oraDp d => encByte 0x05#8 d
  | .aslDp d => encByte 0x06#8 d
  | .oraIdl d => encByte 0x07#8 d
  | .php => [0x08#8]
  | .oraImm c => 0x09#8 :: immBytes m c
  | .aslAcc => [0x0A#8]
  | .phd => [0x0B#8]
  | .tsbAbs a => encWord 0x0C#8 a
  | .oraAbs a => encWord 0x0D#8 a
  | .aslAbs a => encWord 0x0E#8 a
  | .oraAbl a => encLong 0x0F#8 a
  | .bpl disp => encByte 0x10#8 disp
  | .oraIdy d => encByte 0x11#8 d
  | .oraIdp d => encByte 0x12#8 d
  | .oraIsy d => encByte 0x13#8 d
  | .trbDp d => encByte 0x14#8 d
  | .oraDpx d => encByte 0x15#8 d
  | .aslDpx d => encByte 0x16#8 d
  | .oraIly d => encByte 0x17#8 d
  | .clc => [0x18#8]
  | .oraAby a => encWord 0x19#8 a
  | .incAcc => [0x1A#8]
  | .tcs => [0x1B#8]
  | .trbAbs a => encWord 0x1C#8 a
  | .oraAbx a => encWord 0x1D#8 a
  | .aslAbx a => encWord 0x1E#8 a
  | .oraAlx a => encLong 0x1F#8 a
  | .jsrAbs a => encWord 0x20#8 a
  | .andIdx d => encByte 0x21#8 d
  | .jsl a => encLong 0x22#8 a
  | .andSr d => encByte 0x23#8 d
  | .bitDp d => encByte 0x24#8 d
  | .andDp d => encByte 0x25#8 d
  | .rolDp d => encByte 0x26#8 d
  | .andIdl d => encByte 0x27#8 d
  | .plp => [0x28#8]
  | .andImm c => 0x29#8 :: immBytes m c
  | .rolAcc => [0x2A#8]
  | .pld => [0x2B#8]
  | .bitAbs a => encWord 0x2C#8 a
  | .andAbs a => encWord 0x2D#8 a
  | .rolAbs a => encWord 0x2E#8 a
  | .andAbl a => encLong 0x2F#8 a
  | .bmi disp => encByte 0x30#8 disp
  | .andIdy d => encByte 0x31#8 d
  | .andIdp d => encByte 0x32#8 d
  | .andIsy d => encByte 0x33#8 d
  | .bitDpx d => encByte 0x34#8 d
  | .andDpx d => encByte 0x35#8 d
  | .rolDpx d => encByte 0x36#8 d
  | .andIly d => encByte 0x37#8 d
  | .sec => [0x38#8]
  | .andAby a => encWord 0x39#8 a
  | .decAcc => [0x3A#8]
  | .tsc => [0x3B#8]
  | .bitAbx a => encWord 0x3C#8 a
  | .andAbx a => encWord 0x3D#8 a
  | .rolAbx a => encWord 0x3E#8 a
  | .andAlx a => encLong 0x3F#8 a
  | .rti => [0x40#8]
  | .eorIdx d => encByte 0x41#8 d
  | .wdm sig => encByte 0x42#8 sig
  | .eorSr d => encByte 0x43#8 d
  | .mvp dst src => [0x44#8, dst, src]
  | .eorDp d => encByte 0x45#8 d
  | .lsrDp d => encByte 0x46#8 d
  | .eorIdl d => encByte 0x47#8 d
  | .pha => [0x48#8]
  | .eorImm c => 0x49#8 :: immBytes m c
  | .lsrAcc => [0x4A#8]
  | .phk => [0x4B#8]
  | .jmpAbs a => encWord 0x4C#8 a
  | .eorAbs a => encWord 0x4D#8 a
  | .lsrAbs a => encWord 0x4E#8 a
  | .eorAbl a => encLong 0x4F#8 a
  | .bvc disp => encByte 0x50#8 disp
  | .eorIdy d => encByte 0x51#8 d
  | .eorIdp d => encByte 0x52#8 d
  | .eorIsy d => encByte 0x53#8 d
  | .mvn dst src => [0x54#8, dst, src]
  | .eorDpx d => encByte 0x55#8 d
  | .lsrDpx d => encByte 0x56#8 d
  | .eorIly d => encByte 0x57#8 d
  | .cli => [0x58#8]
  | .eorAby a => encWord 0x59#8 a
  | .phy => [0x5A#8]
  | .tcd => [0x5B#8]
  | .jmlLong a => encLong 0x5C#8 a
  | .eorAbx a => encWord 0x5D#8 a
  | .lsrAbx a => encWord 0x5E#8 a
  | .eorAlx a => encLong 0x5F#8 a
  | .rts => [0x60#8]
  | .adcIdx d => encByte 0x61#8 d
  | .per disp => encWord 0x62#8 disp
  | .adcSr d => encByte 0x63#8 d
  | .stzDp d => encByte 0x64#8 d
  | .adcDp d => encByte 0x65#8 d
  | .rorDp d => encByte 0x66#8 d
  | .adcIdl d => encByte 0x67#8 d
  | .pla => [0x68#8]
  | .adcImm c => 0x69#8 :: immBytes m c
  | .rorAcc => [0x6A#8]
  | .rtl => [0x6B#8]
  | .jmpInd a => encWord 0x6C#8 a
  | .adcAbs a => encWord 0x6D#8 a
  | .rorAbs a => encWord 0x6E#8 a
  | .adcAbl a => encLong 0x6F#8 a
  | .bvs disp => encByte 0x70#8 disp
  | .adcIdy d => encByte 0x71#8 d
  | .adcIdp d => encByte 0x72#8 d
  | .adcIsy d => encByte 0x73#8 d
  | .stzDpx d => encByte 0x74#8 d
  | .adcDpx d => encByte 0x75#8 d
  | .rorDpx d => encByte 0x76#8 d
  | .adcIly d => encByte 0x77#8 d
  | .sei => [0x78#8]
  | .adcAby a => encWord 0x79#8 a
  | .ply => [0x7A#8]
  | .tdc => [0x7B#8]
  | .jmpIax a => encWord 0x7C#8 a
  | .adcAbx a => encWord 0x7D#8 a
  | .rorAbx a => encWord 0x7E#8 a
  | .adcAlx a => encLong 0x7F#8 a
  | .bra disp => encByte 0x80#8 disp
  | .staIdx d => encByte 0x81#8 d
  | .brl disp => encWord 0x82#8 disp
  | .staSr d => encByte 0x83#8 d
  | .styDp d => encByte 0x84#8 d
  | .staDp d => encByte 0x85#8 d
  | .stxDp d => encByte 0x86#8 d
  | .staIdl d => encByte 0x87#8 d
  | .dey => [0x88#8]
  | .bitImm c => 0x89#8 :: immBytes m c
  | .txa => [0x8A#8]
  | .phb => [0x8B#8]
  | .styAbs a => encWord 0x8C#8 a
  | .staAbs a => encWord 0x8D#8 a
  | .stxAbs a => encWord 0x8E#8 a
  | .staAbl a => encLong 0x8F#8 a
  | .bcc disp => encByte 0x90#8 disp
  | .staIdy d => encByte 0x91#8 d
  | .staIdp d => encByte 0x92#8 d
  | .staIsy d => encByte 0x93#8 d
  | .styDpx d => encByte 0x94#8 d
  | .staDpx d => encByte 0x95#8 d
  | .stxDpy d => encByte 0x96#8 d
  | .staIly d => encByte 0x97#8 d
  | .tya => [0x98#8]
  | .staAby a => encWord 0x99#8 a
  | .txs => [0x9A#8]
  | .txy => [0x9B#8]
  | .stzAbs a => encWord 0x9C#8 a
  | .staAbx a => encWord 0x9D#8 a
  | .stzAbx a => encWord 0x9E#8 a
  | .staAlx a => encLong 0x9F#8 a
  | .ldyImm c => 0xA0#8 :: immBytes x c
  | .ldaIdx d => encByte 0xA1#8 d
  | .ldxImm c => 0xA2#8 :: immBytes x c
  | .ldaSr d => encByte 0xA3#8 d
  | .ldyDp d => encByte 0xA4#8 d
  | .ldaDp d => encByte 0xA5#8 d
  | .ldxDp d => encByte 0xA6#8 d
  | .ldaIdl d => encByte 0xA7#8 d
  | .tay => [0xA8#8]
  | .ldaImm c => 0xA9#8 :: immBytes m c
  | .tax => [0xAA#8]
  | .plb => [0xAB#8]
  | .ldyAbs a => encWord 0xAC#8 a
  | .ldaAbs a => encWord 0xAD#8 a
  | .ldxAbs a => encWord 0xAE#8 a
  | .ldaAbl a => encLong 0xAF#8 a
  | .bcs disp => encByte 0xB0#8 disp
  | .ldaIdy d => encByte 0xB1#8 d
  | .ldaIdp d => encByte 0xB2#8 d
  | .ldaIsy d => encByte 0xB3#8 d
  | .ldyDpx d => encByte 0xB4#8 d
  | .ldaDpx d => encByte 0xB5#8 d
  | .ldxDpy d => encByte 0xB6#8 d
  | .ldaIly d => encByte 0xB7#8 d
  | .clv => [0xB8#8]
  | .ldaAby a => encWord 0xB9#8 a
  | .tsx => [0xBA#8]
  | .tyx => [0xBB#8]
  | .ldyAbx a => encWord 0xBC#8 a
  | .ldaAbx a => encWord 0xBD#8 a
  | .ldxAby a => encWord 0xBE#8 a
  | .ldaAlx a => encLong 0xBF#8 a
  | .cpyImm c => 0xC0#8 :: immBytes x c
  | .cmpIdx d => encByte 0xC1#8 d
  | .rep mask => encByte 0xC2#8 mask
  | .cmpSr d => encByte 0xC3#8 d
  | .cpyDp d => encByte 0xC4#8 d
  | .cmpDp d => encByte 0xC5#8 d
  | .decDp d => encByte 0xC6#8 d
  | .cmpIdl d => encByte 0xC7#8 d
  | .iny => [0xC8#8]
  | .cmpImm c => 0xC9#8 :: immBytes m c
  | .dex => [0xCA#8]
  | .wai => [0xCB#8]
  | .cpyAbs a => encWord 0xCC#8 a
  | .cmpAbs a => encWord 0xCD#8 a
  | .decAbs a => encWord 0xCE#8 a
  | .cmpAbl a => encLong 0xCF#8 a
  | .bne disp => encByte 0xD0#8 disp
  | .cmpIdy d => encByte 0xD1#8 d
  | .cmpIdp d => encByte 0xD2#8 d
  | .cmpIsy d => encByte 0xD3#8 d
  | .pei d => encByte 0xD4#8 d
  | .cmpDpx d => encByte 0xD5#8 d
  | .decDpx d => encByte 0xD6#8 d
  | .cmpIly d => encByte 0xD7#8 d
  | .cld => [0xD8#8]
  | .cmpAby a => encWord 0xD9#8 a
  | .phx => [0xDA#8]
  | .stp => [0xDB#8]
  | .jmlInd a => encWord 0xDC#8 a
  | .cmpAbx a => encWord 0xDD#8 a
  | .decAbx a => encWord 0xDE#8 a
  | .cmpAlx a => encLong 0xDF#8 a
  | .cpxImm c => 0xE0#8 :: immBytes x c
  | .sbcIdx d => encByte 0xE1#8 d
  | .sep mask => encByte 0xE2#8 mask
  | .sbcSr d => encByte 0xE3#8 d
  | .cpxDp d => encByte 0xE4#8 d
  | .sbcDp d => encByte 0xE5#8 d
  | .incDp d => encByte 0xE6#8 d
  | .sbcIdl d => encByte 0xE7#8 d
  | .inx => [0xE8#8]
  | .sbcImm c => 0xE9#8 :: immBytes m c
  | .nop => [0xEA#8]
  | .xba => [0xEB#8]
  | .cpxAbs a => encWord 0xEC#8 a
  | .sbcAbs a => encWord 0xED#8 a
  | .incAbs a => encWord 0xEE#8 a
  | .sbcAbl a => encLong 0xEF#8 a
  | .beq disp => encByte 0xF0#8 disp
  | .sbcIdy d => encByte 0xF1#8 d
  | .sbcIdp d => encByte 0xF2#8 d
  | .sbcIsy d => encByte 0xF3#8 d
  | .pea c => encWord 0xF4#8 c
  | .sbcDpx d => encByte 0xF5#8 d
  | .incDpx d => encByte 0xF6#8 d
  | .sbcIly d => encByte 0xF7#8 d
  | .sed => [0xF8#8]
  | .sbcAby a => encWord 0xF9#8 a
  | .plx => [0xFA#8]
  | .xce => [0xFB#8]
  | .jsrIax a => encWord 0xFC#8 a
  | .sbcAbx a => encWord 0xFD#8 a
  | .incAbx a => encWord 0xFE#8 a
  | .sbcAlx a => encLong 0xFF#8 a

/-- The bytes of an instruction word numbered as spec/opcode_table.json numbers it: bit 0 is the least
significant bit of the first byte. Four bytes, the length of the longest instruction; bits at `nbits` and
above are 0. -/
def wordBytes (nbits w : Nat) : List Byte :=
  let v := w % 2 ^ nbits
  [BitVec.ofNat 8 v, BitVec.ofNat 8 (v / 2 ^ 8), BitVec.ofNat 8 (v / 2 ^ 16), BitVec.ofNat 8 (v / 2 ^ 24)]

/-- The instruction the decoder reads from a table word, under the widths after reset, M = 1 and flag X = 1
(R46; log 9). -/
def decodeTableWord (nbits w : Nat) : Option Instr :=
  match decode true true (wordBytes nbits w) with
  | .ok r => some r.1
  | .error _ => none

end Sys2Proof
end

