-- ==== Sys2Proof/Machine/Fetch.lean ====
section
/-! DEFINITION. Reading the next instruction: the bytes the bus will answer its fetches with, and the instruction
they decode to (20_memory.md R70, 30_encoding.md R90, R94, R103). -/

namespace Sys2Proof.Machine

/-- In which bus transaction, counted from the opcode fetch, an instruction's `n`-th byte is fetched (R103): in the
`n`-th, but for the bank byte of JSL, fetched after a push and an idle (R278), and the second operand byte of
JSR (a,X), fetched after two pushes (R277). -/
def fetchSlot (op : Byte) (n : Nat) : Nat :=
  if op = 0x22#8 ∧ n = 3 then 5 else if op = 0xFC#8 ∧ n = 2 then 4 else n

/-- The opcode byte at `K:PC`, as the next transaction will answer it. -/
def peekOpcode (s : State) : Byte := answerAt s 0 (pcAddr s)

/-- The `n`-th byte of the instruction at `K:PC`, as the bus will answer its fetch; PC wraps inside bank K (R104). -/
def peekByte (s : State) (n : Nat) : Byte :=
  answerAt s (fetchSlot (peekOpcode s) n) (bankAddr s.k (s.pc + BitVec.ofNat 16 n))

/-- The four bytes at `K:PC`, as many as the longest instruction has. -/
def peekBytes (s : State) : List Byte := [peekOpcode s, peekByte s 1, peekByte s 2, peekByte s 3]

/-- The instruction the step will run: the decoding of the bytes at `K:PC` under M and flag X (R94). -/
def nextInstr (s : State) : Instr :=
  decodeOp s.fM s.fX (peekOpcode s) ⟨peekByte s 1, peekByte s 2, peekByte s 3⟩

/-- `op <- Fetch()` (R317, R321). -/
def fetchOpcode (s : State) : State := fetchByte (peekOpcode s) s

/-- Store bytes at ascending addresses from `K:PC`, PC wrapping inside bank K (R104). -/
def storeBytes (bank : Byte) (off : Word) (bytes : List Byte) (m : List Host.Cell) : List Host.Cell :=
  match bytes with
  | [] => m
  | b :: rest => storeBytes bank (off + 1) rest (memWrite m (bankAddr bank off).toNat b)

/-- The state with an instruction word's bytes at `K:PC`, and with what could keep the next step from fetching
there put out of the way: the three gates, the interrupt requests, and the host's pending acts (R317; log 8). -/
def placeFetchWord (s : State) (nbits w : Nat) : State :=
  { s with
    mem := storeBytes s.k s.pc (wordBytes nbits w) s.mem
    resetWanted := false
    stopped := false
    waiting := false
    nmiWanted := false
    irqWanted := false
    intWanted := false
    hostTicks := [] }

end Sys2Proof.Machine
end

