-- ==== Sys2Proof/Machine/HostPort.lean ====
section
/-! DEFINITION. The host's operations between steps (00_scope.md R10): `Reset(hard)`, `Nmi()`, `SetIrq(s)`,
`GetDebugState()`, and construction. -/

namespace Sys2Proof.Machine

/-- A hard reset zeroes every register and flag and the IRQ latch (R350, 90_conflicts.md C5). -/
def zeroCore (s : State) : State :=
  { s with
    a := 0, x := 0, y := 0, sp := 0, pc := 0, dp := 0, k := 0, db := 0
    fN := false, fV := false, fM := false, fX := false, fD := false, fI := false, fZ := false, fC := false
    fE := false
    irqWanted := false }

/-- `Reset(hard)`, the request (R350). It makes no bus cycle; the next step runs the reset sequence. -/
def hostReset (hard : Bool) (s : State) : State :=
  { (if hard then zeroCore s else s) with
    waiting := false, stopped := false, nmiWanted := false, intWanted := false, resetWanted := true }

/-- `Nmi()`: latch the edge (R31, R312). -/
def hostNmi (s : State) : State := { s with nmiWanted := true }

/-- `SetIrq(level)` (R32, R313). -/
def hostSetIrq (level : Bool) (s : State) : State := { s with irqWanted := level }

/-- Construction, which is a hard reset (R351): the state before the first step, its reset sequence still to run. -/
def powerOn : State := hostReset true State.reset

/-- What `GetDebugState()` returns (R49, D21): the eight registers and the nine flags. -/
structure DebugState where
  a : Word
  x : Word
  y : Word
  sp : Word
  pc : Word
  dp : Word
  k : Byte
  db : Byte
  p : Byte
  e : Bool
deriving DecidableEq, Repr

/-- `GetDebugState()` (R49): reads, and changes nothing. The eight flags of P are given as the byte of R40. -/
def debugState (s : State) : DebugState :=
  { a := s.a, x := s.x, y := s.y, sp := s.sp, pc := s.pc, dp := s.dp, k := s.k, db := s.db
    p := getFlags s, e := s.fE }

end Sys2Proof.Machine
end

