-- ==== Sys2Proof/Machine/Run.lean ====
section
/-! DEFINITION. `RunOpcode()`, the top-level step and its gates (60_exceptions.md R317 to R321). -/

namespace Sys2Proof.Machine

/-- The waiting gate (R320): a held IRQ, masked or not, or an NMI ends the wait in a step `I P I` of its own;
otherwise one flagged idle. -/
def waitingTick (s : State) : State :=
  if s.irqWanted || s.nmiWanted then idle (poll (idle { s with waiting := false })) else idleWait s

/-- The poll that begins the normal path, if the parameter asks for it (R321, D2). -/
def startPoll (s : State) : State := pollIf s.stepStartPoll s

/-- The normal path after its poll (R321): a dummy read at `K:PC` and an interrupt entry, or one instruction. -/
def serviceOrRun (s : State) : Result :=
  if s.intWanted then .next (doInterrupt (busRead (pcAddr s) s).2) else exec (nextInstr s) (fetchOpcode s)

/-- One step (R317): exactly one gate runs, in this order. The record of events starts empty (log 4). -/
def runOpcode (s : State) : Result :=
  let s := { s with trace := [] }
  if s.resetWanted then .next (resetSequence s)
  else if s.stopped then .next (idleWait s)
  else if s.waiting then .next (waitingTick s)
  else serviceOrRun (startPoll s)

end Sys2Proof.Machine
end

