-- ==== Sys2Proof/Machine/Step.lean ====
section
/-! DEFINITION. The step and the placing of an instruction under it, under the names the host reads. -/

namespace Sys2Proof.Machine

/-- One step of the core (00_scope.md R7): `RunOpcode()` (R317). -/
def step (s : State) : Host.Outcome State Fault Refusal := runOpcode s

/-- The state in which the very next step fetches and runs the instruction word `w` (log 8). -/
def State.withFetchWord (s : State) (nbits w : Nat) : State := placeFetchWord s nbits w

end Sys2Proof.Machine
end

