-- ==== Sys2Proof/Safety.lean ====
section
/-! DEFINITION. What counts as a legal state (10_state.md R37, R38), and the terms the statements use. The machine
has no error state (00_scope.md R8). -/

namespace Sys2Proof.Machine

/-! ### Legal states and the gates -/

/-- R37: "If E = 1 then M = 1, X = 1, and SP has its high byte equal to $01." -/
abbrev EmulationInv (s : State) : Prop :=
  s.fE = true → s.fM = true ∧ s.fX = true ∧ hiByte s.sp = 0x01#8

/-- R38: "If X = 1 then the upper bytes of X and Y are zero." -/
abbrev IndexInv (s : State) : Prop :=
  s.fX = true → hiByte s.x = 0x00#8 ∧ hiByte s.y = 0x00#8

/-- A legal state: the two invariants of the spec, and the memory in its canonical form. -/
abbrev Inv (s : State) : Prop :=
  EmulationInv s ∧ IndexInv s ∧ memWf s.mem = true

/-- The host does nothing inside the coming bus transactions but answer from its memory. -/
abbrev Quiet (s : State) : Prop := s.hostTicks = []

/-- None of the three gates before the normal path is closed (R317). -/
abbrev Running (s : State) : Prop := s.resetWanted = false ∧ s.stopped = false ∧ s.waiting = false

/-- Does the normal path of a step at `s` take an interrupt (R321)? With the start poll it is that poll's value,
without it what the last poll left. -/
def interruptDue (s : State) : Bool := if s.stepStartPoll then pollValue s else s.intWanted

/-! ### The host inside the coming bus transactions -/

/-- Is NMI wanted once `n` more bus transactions are done (R31), if the core does not clear it? -/
def nmiAfter (s : State) (n : Nat) : Bool := s.nmiWanted || (s.hostTicks.take n).any HostTick.nmi

/-- The level of the IRQ line once `n` more bus transactions are done: the last one the host set (R32). -/
def irqAfter (s : State) (n : Nat) : Bool := ((s.hostTicks.take n).filterMap HostTick.irq).getLast?.getD s.irqWanted

/-- What a read that is the `n`-th bus transaction from now (0 is the next one) is answered with where the host's memory
holds `b` (R6). -/
def answered (s : State) (n : Nat) (b : Byte) : Byte := (tickAt s n).answer.getD b

/-! ### What a step answers -/

/-- `r` is the next state `t`, whatever its record of events is. -/
def Answers (r : Result) (t : State) : Prop := ∃ tr, r = .next { t with trace := tr }

/-- `r` is a next state that is `t` but for its memory, and each byte of its memory reads as `bytes` says. -/
def AnswersStoring (r : Result) (t : State) (bytes : Nat → Byte) : Prop :=
  ∃ m, r = .next { t with mem := m } ∧ ∀ a, memRead m a = bytes a

/-- The state after `AdrImp()` at `s` (R111): the poll, then the dummy read at `K:PC` or one idle. -/
def afterImplied (s : State) : State :=
  { s with
    intWanted := pollValue s
    trace := s.trace ++ [.poll (pollValue s),
      if pollValue s then .read (pcAddr s) (memRead s.mem (pcAddr s).toNat) else .idle false] }

/-- What memory holds `n` bytes after `K:PC`, PC wrapping inside bank K (R104). -/
def codeByte (s : State) (n : Nat) : Byte := memRead s.mem (bankAddr s.k (s.pc + BitVec.ofNat 16 n)).toNat

/-! ### Opcodes -/

/-- The opcode of a row is the mnemonic with the row's data operand, whatever the flags. -/
abbrev IsForm (m x : Bool) (b : OperandBytes) (mn : Mnemonic) (row : Byte × Operand) : Prop :=
  mnemonicOf (decodeOp m x row.1 b) = mn ∧ operandOf (decodeOp m x row.1 b) = some row.2

/-- The fourteen memory forms of the accumulator instructions (R131: "Operands and modes as ORA"), from the first
opcode of the group. -/
def accMemForms (base : Byte) (b : OperandBytes) : List (Byte × Operand) :=
  [(base + 0x01, .mem (.idx b.b1)), (base + 0x03, .mem (.sr b.b1)), (base + 0x05, .mem (.dp b.b1)),
    (base + 0x07, .mem (.idl b.b1)), (base + 0x0D, .mem (.abs b.word)), (base + 0x0F, .mem (.abl b.long)),
    (base + 0x11, .mem (.idy b.b1)), (base + 0x12, .mem (.idp b.b1)), (base + 0x13, .mem (.isy b.b1)),
    (base + 0x15, .mem (.dpx b.b1)), (base + 0x17, .mem (.ily b.b1)), (base + 0x19, .mem (.aby b.word)),
    (base + 0x1D, .mem (.abx b.word)), (base + 0x1F, .mem (.alx b.long))]

/-- The fifteen forms of ORA, AND, EOR, ADC, LDA, CMP and SBC: those and the immediate. -/
def accForms (base : Byte) (m : Bool) (b : OperandBytes) : List (Byte × Operand) :=
  (base + 0x09, .imm (b.imm m)) :: accMemForms base b

/-- The four memory forms of ASL, LSR, ROL, ROR, INC and DEC (R156 to R161). -/
def rmwForms (base : Byte) (b : OperandBytes) : List (Byte × Operand) :=
  [(base + 0x06, .mem (.dp b.b1)), (base + 0x0E, .mem (.abs b.word)), (base + 0x16, .mem (.dpx b.b1)),
    (base + 0x1E, .mem (.abx b.word))]

/-! ### Operands -/

/-- How many bytes of the instruction an operand in memory takes (R91). -/
def memOperandLength : MemOperand → Word
  | .dp _ | .dpx _ | .dpy _ | .idp _ | .idx _ | .idy _ | .idl _ | .ily _ | .sr _ | .isy _ => 1
  | .abs _ | .abx _ | .aby _ => 2
  | .abl _ | .alx _ => 3

/-- How many bytes of the instruction a data operand takes at the width (R91, R93). -/
def operandLength (w8 : Bool) : Operand → Word
  | .imm _ => if w8 then 1 else 2
  | .mem m => memOperandLength m

/-- What memory holds at an address pair, at the width (R63, R65). -/
def valueAt (p : AddrPair) (w8 : Bool) (s : State) : Word :=
  if w8 then zextByte (memRead s.mem p.lo.toNat) else mkWord (memRead s.mem p.hi.toNat) (memRead s.mem p.lo.toNat)

/-- The value of a data operand that is only read, at the width (R92, R130). -/
def operandValue (o : Operand) (w8 : Bool) (s : State) : Word :=
  match o with
  | .imm c => if w8 then zextByte (loByte c) else c
  | .mem m => valueAt (address m false s).1 w8 s

/-- Memory with a value stored at an address pair at the width, byte by byte (R63, R65). -/
def bytesStored (p : AddrPair) (v : Word) (w8 : Bool) (s : State) (a : Nat) : Byte :=
  if a = p.lo.toNat then loByte v
  else if !w8 && a == p.hi.toNat then hiByte v
  else memRead s.mem a

/-- An operand pair at a numeric address and the next one, both reduced by the modulus of its space (R66, R110). -/
def PairIs (p : AddrPair) (lo modulus : Nat) : Prop :=
  p.lo.toNat = lo % modulus ∧ p.hi.toNat = (lo + 1) % modulus

/-- The number of a 16-bit pointer at an offset in bank 0 (R66: its high byte wraps in bank 0). -/
def pointerAt (s : State) (off : Nat) : Nat :=
  (memRead s.mem (off % 0x10000)).toNat + 0x100 * (memRead s.mem ((off + 1) % 0x10000)).toNat

/-- The number of a 24-bit pointer at an offset in bank 0. -/
def longPointerAt (s : State) (off : Nat) : Nat :=
  pointerAt s off + 0x10000 * (memRead s.mem ((off + 2) % 0x10000)).toNat

/-- The events of a 16-bit pointer read at an offset in bank 0. -/
def pointerEvents (s : State) (off : Word) : List Event :=
  [.read (bank0 off) (memRead s.mem (bank0 off).toNat),
    .read (bank0 (off + 1)) (memRead s.mem (bank0 (off + 1)).toNat)]

/-- The fetch of an instruction byte `n` bytes after `K:PC`, given the byte (R70). -/
def fetchEvent (s : State) (n : Word) (b : Byte) : Event := .read (bankAddr s.k (s.pc + n)) b

/-- The record of events once a data operand is read at the width: those of the calculator, then the poll and the
one or two reads of R130, which for an immediate are the fetches of its bytes (R127). -/
def readTrace (o : Operand) (w8 : Bool) (s : State) : List Event :=
  let poll := Event.poll (pollValue s)
  match o with
  | .imm c =>
    s.trace ++ if w8 then [poll, fetchEvent s 0 (loByte c)]
      else [fetchEvent s 0 (loByte c), poll, fetchEvent s 1 (hiByte c)]
  | .mem m =>
    let p := address m false s
    let lo := Event.read p.1.lo (memRead s.mem p.1.lo.toNat)
    p.2.trace ++ if w8 then [poll, lo] else [lo, poll, .read p.1.hi (memRead s.mem p.1.hi.toNat)]

/-- The record of events once a value is stored at the width: those of the calculator, then the poll and the one or
two writes of R150. -/
def storeTrace (o : MemOperand) (v : Word) (w8 : Bool) (s : State) : List Event :=
  let poll := Event.poll (pollValue s)
  let p := address o true s
  p.2.trace ++ if w8 then [poll, .write p.1.lo (loByte v)]
    else [.write p.1.lo (loByte v), poll, .write p.1.hi (hiByte v)]

/-- The record of events once a read-modify-write has stored its result: those of the calculator, then those of
R155. -/
def rmwTrace (o : MemOperand) (r : Word) (s : State) : List Event :=
  let poll := Event.poll (pollValue s)
  let p := address o true s
  let lo := Event.read p.1.lo (memRead s.mem p.1.lo.toNat)
  p.2.trace ++ if s.fM then [lo, .idle false, poll, .write p.1.lo (loByte r)]
    else [lo, .read p.1.hi (memRead s.mem p.1.hi.toNat), .idle false, .write p.1.hi (hiByte r), poll,
      .write p.1.lo (loByte r)]

/-- DPIDLE (R129). -/
def dpIdleEvents (s : State) : List Event := if loByte s.dp = 0x00#8 then [] else [.idle false]

/-- PENALTY (R129): the high bytes are those of the 16-bit base and of base plus index. -/
def penaltyEvents (base index : Word) (write : Bool) (s : State) : List Event :=
  if write = true ∨ s.fX = false ∨ base.toNat / 0x100 ≠ (base.toNat + index.toNat) / 0x100 % 0x100
  then [.idle false] else []

/-! ### The stack -/

/-- SP after `n` pushes from `sp`, in page $01 when `e` (R74). -/
def spPushed (e : Bool) (sp : Word) : Nat → Word
  | 0 => sp
  | n + 1 => spPushed e (coerceSp e (sp - 1)) n

/-- SP after `n` pulls from `sp` (R75). -/
def spPulled (e : Bool) (sp : Word) : Nat → Word
  | 0 => sp
  | n + 1 => spPulled e (coerceSp e (sp + 1)) n

/-- Memory with bytes pushed from `sp` on, the first one first, byte by byte (R74). -/
def bytesPushed (e : Bool) (sp : Word) (pushed : List Byte) (before : Nat → Byte) (a : Nat) : Byte :=
  match pushed with
  | [] => before a
  | b :: rest =>
    bytesPushed e (coerceSp e (sp - 1)) rest (fun c => if c = (bank0 sp).toNat then b else before c) a

/-- The `n`-th byte the next pulls give (R75), counted from 1. -/
def stackByte (s : State) (n : Nat) : Byte := memRead s.mem (bank0 (spPulled s.fE s.sp n)).toNat

/-- The events of bytes pushed from `sp` on, the first one first (R74). -/
def pushEvents (e : Bool) (sp : Word) : List Byte → List Event
  | [] => []
  | b :: rest => .write (bank0 sp) b :: pushEvents e (coerceSp e (sp - 1)) rest

/-- The frame of an exception or an interrupt at `s` (R324): K in native mode only, PC, a flag byte. -/
def frameBytes (s : State) (pc : Word) (flags : Byte) : List Byte :=
  (if s.fE then [] else [s.k]) ++ [hiByte pc, loByte pc, flags]

/-- `r` is the 8-bit push shape of R230, from after the opcode fetch, and changes nothing else. -/
def Pushes8 (r : Result) (s : State) (b : Byte) : Prop :=
  ∃ m, r = .next { s with
      mem := m
      sp := spPushed s.fE s.sp 1
      intWanted := pollValue s
      trace := s.trace ++ [.idle false, .poll (pollValue s), .write (bank0 s.sp) b] } ∧
    ∀ a, memRead m a = bytesPushed s.fE s.sp [b] (memRead s.mem) a

/-- `r` is the 16-bit push shape of R230 at `s`, and changes nothing else. -/
def Pushes16 (r : Result) (s : State) (v : Word) : Prop :=
  ∃ m, r = .next { s with
      mem := m
      sp := spPushed s.fE s.sp 2
      intWanted := pollValue s
      trace := s.trace ++ [.idle false, .write (bank0 s.sp) (hiByte v), .poll (pollValue s),
        .write (bank0 (spPushed s.fE s.sp 1)) (loByte v)] } ∧
    ∀ a, memRead m a = bytesPushed s.fE s.sp [hiByte v, loByte v] (memRead s.mem) a

/-- The state after the 8-bit pull shape of R230, but for what the instruction does with `stackByte s 1`. -/
def afterPull8 (s : State) : State :=
  { s with
    sp := spPulled s.fE s.sp 1
    intWanted := pollValue s
    trace := s.trace ++ [.idle false, .idle false, .poll (pollValue s),
      .read (bank0 (spPulled s.fE s.sp 1)) (stackByte s 1)] }

/-- The state after the 16-bit pull shape of R230, but for what the instruction does with `stackWord s`. -/
def afterPull16 (s : State) : State :=
  { s with
    sp := spPulled s.fE s.sp 2
    intWanted := pollValue s
    trace := s.trace ++ [.idle false, .idle false, .read (bank0 (spPulled s.fE s.sp 1)) (stackByte s 1),
      .poll (pollValue s), .read (bank0 (spPulled s.fE s.sp 2)) (stackByte s 2)] }

/-- The word the next two pulls give, low byte first (R77). -/
def stackWord (s : State) : Word := mkWord (stackByte s 2) (stackByte s 1)

/-- The word of two bytes of memory given by their addresses, low byte first (R63). -/
def wordAt (m : List Host.Cell) (lo hi : Addr) : Word := mkWord (memRead m hi.toNat) (memRead m lo.toNat)

/-! ### Decimal operands -/

/-- Is every nibble of the width 0 to 9 (R135: valid BCD)? -/
def validBcd (w8 : Bool) (v : Word) : Bool := (nibbles w8).all fun k => nibble k v ≤ 9

/-- The number a BCD value of the width stands for. -/
def fromBcd (w8 : Bool) (v : Word) : Nat := ((nibbles w8).map fun k => nibble k v * 10 ^ k).sum

/-- 100 or 10000: the number of decimal values of the width. -/
def bcdModulus (w8 : Bool) : Nat := if w8 then 100 else 10000

end Sys2Proof.Machine
end

