-- ==== Sys2Proof/Certificates/Slice0/Obligations.lean ====
section
/-! DEFINITION. The statements for the provers. -/

open Sys2Proof Sys2Proof.Machine

/-! ### Encoding (30_encoding.md) -/

/-- Decoding an encoded well-formed instruction gives it back, whatever bytes follow it (R91, R92, R93, R96). -/
def Obligations.DecodeEncode : Prop :=
  ∀ (m x : Bool) (i : Instr) (rest : List Byte),
    i.wf m x = true → decode m x (encode m x i ++ rest) = .ok (i, rest)

/-- What decodes is well-formed, and encoding it gives back the bytes that were taken (R91, R92, R93, R96). -/
def Obligations.EncodeDecode : Prop :=
  ∀ (m x : Bool) (bytes rest : List Byte) (i : Instr),
    decode m x bytes = .ok (i, rest) → i.wf m x = true ∧ encode m x i ++ rest = bytes

/-- There is no illegal encoding: four bytes always decode, to an instruction of one to four of them (R97). -/
def Obligations.NoIllegalOpcode : Prop :=
  ∀ (m x : Bool) (op b1 b2 b3 : Byte) (rest : List Byte), ∃ i n, 1 ≤ n ∧ n ≤ 4 ∧
    decode m x (op :: b1 :: b2 :: b3 :: rest) = .ok (i, (op :: b1 :: b2 :: b3 :: rest).drop n)

/-- The length of the eight FM opcodes follows M, that of the four FX opcodes flag X, and no other length depends
on a flag (R93). -/
def Obligations.ImmediateLength : Prop :=
  ∀ (m x m' x' : Bool) (op : Byte) (b : OperandBytes),
    (op ∈ [0x09#8, 0x29#8, 0x49#8, 0x69#8, 0x89#8, 0xA9#8, 0xC9#8, 0xE9#8] →
      (encode m x (decodeOp m x op b)).length = if m then 2 else 3) ∧
    (op ∈ [0xA0#8, 0xA2#8, 0xC0#8, 0xE0#8] →
      (encode m x (decodeOp m x op b)).length = if x then 2 else 3) ∧
    (op ∉ [0x09#8, 0x29#8, 0x49#8, 0x69#8, 0x89#8, 0xA9#8, 0xC9#8, 0xE9#8, 0xA0#8, 0xA2#8, 0xC0#8, 0xE0#8] →
      (encode m x (decodeOp m x op b)).length = (encode m' x' (decodeOp m' x' op b)).length)

/-- A few instructions written out byte by byte from the opcode map (R92, R96) decode to what they stand for. -/
def Obligations.OpcodeWords : Prop :=
  decode false false [0x09, 0x0F, 0x80] = .ok (.oraImm 0x800F, []) ∧
  decode true false [0x09, 0x0F, 0x80] = .ok (.oraImm 0x000F, [0x80]) ∧
  decode false false [0xA2, 0xEF, 0x01] = .ok (.ldxImm 0x01EF, []) ∧
  decode true true [0x8F, 0x56, 0x34, 0x12] = .ok (.staAbl 0x123456, []) ∧
  decode true true [0x54, 0x7F, 0x7E] = .ok (.mvn 0x7F 0x7E, []) ∧
  decode true true [0x22, 0x00, 0x90, 0x7E] = .ok (.jsl 0x7E9000, []) ∧
  decode true true [0x62, 0xFD, 0xFF] = .ok (.per 0xFFFD, []) ∧
  decode true true [0x16, 0x10] = .ok (.aslDpx 0x10, []) ∧
  decode true true [0xC2, 0x30] = .ok (.rep 0x30, []) ∧
  decode true true [0x40] = .ok (.rti, [])

/-! ### The step (60_exceptions.md, 70_reset_and_hazards.md) -/

/-- Every step ends in a next state: no fault, no refusal (R8). -/
def Obligations.StepCompletes : Prop := ∀ s : State, ∃ t, step s = .next t

/-- On the normal path with no interrupt due, the step fetches the opcode and is `exec` of the instruction the bytes
at `K:PC` decode to under M and flag X (R317, R321, R70, R94). The step adds the start poll, the opcode's fetch with
PC moved past it, and an empty record to begin with. -/
def Obligations.StepRunsDecoded : Prop :=
  ∀ (s : State) (i : Instr) (rest : List Byte), Quiet s → Running s → interruptDue s = false →
    decode s.fM s.fX [codeByte s 0, codeByte s 1, codeByte s 2, codeByte s 3] = .ok (i, rest) →
    step s = exec i { s with
      pc := s.pc + 1
      intWanted := false
      trace := (if s.stepStartPoll then [.poll false] else []) ++ [.read (pcAddr s) (codeByte s 0)] }

/-- A hardware interrupt entry (R322), whatever the host does inside its bus transactions: the dummy read and one idle,
the frame, I, D and K, and the word at the vector. The vector is chosen after the pushes: NMI's if NMI is wanted by then,
also where `Nmi()` came during the pushes of an entry begun for an IRQ (R323, D6), else IRQ's. An NMI entry clears
`nmiWanted` at its end; an IRQ entry loses no `Nmi()`. Nothing else changes. -/
def Obligations.InterruptEntry : Prop :=
  ∀ s : State, Running s → memWf s.mem = true → interruptDue s = true →
    let flags := if s.fE then getFlags s &&& 0xEF#8 else getFlags s
    let frame := frameBytes s s.pc flags
    let bytes := bytesPushed s.fE s.sp frame (memRead s.mem)
    let n := frame.length + 2
    let isNmi := nmiAfter s n
    let v := if isNmi then (if s.fE then 0xFFFA#16 else 0xFFEA#16) else if s.fE then 0xFFFE#16 else 0xFFEE#16
    let dummy := answered s 0 (memRead s.mem (pcAddr s).toNat)
    let lo := answered s n (bytes (bank0 v).toNat)
    let hi := answered s (n + 1) (bytes (bank0 (v + 1)).toNat)
    ∃ m, step s = .next { s with
        mem := m
        sp := spPushed s.fE s.sp frame.length
        fI := true
        fD := false
        k := 0x00#8
        pc := mkWord hi lo
        intWanted := false
        nmiWanted := if isNmi then false else nmiAfter s (n + 2)
        irqWanted := irqAfter s (n + 2)
        hostTicks := s.hostTicks.drop (n + 2)
        trace := (if s.stepStartPoll then [.poll true] else []) ++ [.read (pcAddr s) dummy, .idle false] ++
          pushEvents s.fE s.sp frame ++ [.read (bank0 v) lo, .read (bank0 (v + 1)) hi] } ∧
      ∀ a, memRead m a = bytes a

/-- The parked gates (R318, R320): a stopped core only idles; a waiting core idles until an IRQ level, masked or not,
or an NMI ends the wait in a step `I P I` of its own. -/
def Obligations.ParkedGates : Prop :=
  ∀ s : State, Quiet s → s.resetWanted = false →
    (s.stopped = true → step s = .next { s with trace := [.idle true] }) ∧
    (s.stopped = false → s.waiting = true →
      step s = .next (if s.irqWanted || s.nmiWanted then
        { s with
          waiting := false
          intWanted := pollValue s
          trace := [.idle false, .poll (pollValue s), .idle false] }
      else { s with trace := [.idle true] }))

/-- The reset request (R350). -/
def Obligations.ResetRequest : Prop :=
  ∀ s : State,
    hostReset true s = { s with
      a := 0, x := 0, y := 0, sp := 0, pc := 0, dp := 0, k := 0, db := 0
      fN := false, fV := false, fM := false, fX := false, fD := false, fI := false, fZ := false, fC := false
      fE := false, irqWanted := false
      waiting := false, stopped := false, nmiWanted := false, intWanted := false, resetWanted := true } ∧
    hostReset false s = { s with
      waiting := false, stopped := false, nmiWanted := false, intWanted := false, resetWanted := true }

/-- The values after reset, hard and soft: a request followed by the reset sequence (R46, R352, R353, R354). -/
def Obligations.ResetValues : Prop :=
  ∀ s : State, Quiet s →
    let vector := wordAt s.mem 0x00FFFC 0x00FFFD
    let vectorReads : List Event :=
      [.read 0x00FFFC (memRead s.mem 0x00FFFC), .read 0x00FFFD (memRead s.mem 0x00FFFD)]
    let stackRead := fun (n : Word) =>
      Event.read (bank0 (pageOne (s.sp - n))) (memRead s.mem (bank0 (pageOne (s.sp - n))).toNat)
    step (hostReset true s) = .next { s with
      a := 0, x := 0, y := 0, sp := 0x01FD, pc := vector, dp := 0, k := 0, db := 0
      fN := false, fV := false, fM := true, fX := true, fD := false, fI := true, fZ := false, fC := false
      fE := true, nmiWanted := false, irqWanted := false, intWanted := false, resetWanted := false
      waiting := false, stopped := false
      trace := [.read 0x000000 (memRead s.mem 0), .idle false, .read 0x000100 (memRead s.mem 0x000100),
        .read 0x0001FF (memRead s.mem 0x0001FF), .read 0x0001FE (memRead s.mem 0x0001FE)] ++ vectorReads } ∧
    step (hostReset false s) = .next { s with
      x := zextByte (loByte s.x), y := zextByte (loByte s.y), sp := pageOne (s.sp - 3), pc := vector, k := 0
      fM := true, fX := true, fD := false, fI := true, fE := true, nmiWanted := false, intWanted := false
      resetWanted := false, waiting := false, stopped := false
      trace := [.read (pcAddr s) (memRead s.mem (pcAddr s).toNat), .idle false, stackRead 0, stackRead 1,
        stackRead 2] ++ vectorReads }

/-- Power-on is a hard reset, and its first step leads to `State.reset` (R351). That PC is $0000 there rests on what
an unlisted byte reads as and on the choice of the reset state, the model's own (log 2, log 6). -/
def Obligations.PowerOn : Prop :=
  powerOn.resetWanted = true ∧ Answers (step powerOn) State.reset

/-! ### Invariants and frames over all instructions -/

/-- Every step keeps a legal state legal: R37, R38, and the canonical form of the memory. -/
def Obligations.InvKept : Prop := ∀ s t : State, Inv s → step s = .next t → Inv t

/-- The state after reset is legal. -/
def Obligations.InvAtReset : Prop := Inv State.reset

/-- The host's operations keep a legal state legal. -/
def Obligations.HostKeepsInv : Prop :=
  ∀ (s : State) (v : Bool), Inv s → Inv (hostReset v s) ∧ Inv (hostNmi s) ∧ Inv (hostSetIrq v s)

/-- Which instructions write which flag: an instruction not named for a flag leaves it unchanged (R47, R30). -/
def Obligations.FlagWriters : Prop :=
  ∀ (i : Instr) (s t : State), EmulationInv s → exec i s = .next t →
    let named := fun (l : List Mnemonic) => mnemonicOf i ∈ l
    let loads := named [.plp, .rti, .rep, .sep]
    let zn := named [.ora, .and, .eor, .adc, .sbc, .cmp, .cpx, .cpy, .lda, .ldx, .ldy, .asl, .lsr, .rol, .ror, .inc,
      .dec, .inx, .iny, .dex, .dey, .tax, .tay, .txa, .tya, .tsx, .txy, .tyx, .tcd, .tdc, .tsc, .xba, .pla, .plx,
      .ply, .plb, .pld]
    let bitMem := mnemonicOf i = .bit ∧ formatOf i ≠ .fm
    (t.fN ≠ s.fN → zn ∨ bitMem ∨ loads) ∧
    (t.fZ ≠ s.fZ → zn ∨ named [.bit, .tsb, .trb] ∨ loads) ∧
    (t.fV ≠ s.fV → named [.adc, .sbc, .clv] ∨ bitMem ∨ loads) ∧
    (t.fC ≠ s.fC → named [.adc, .sbc, .cmp, .cpx, .cpy, .asl, .lsr, .rol, .ror, .clc, .sec, .xce] ∨ loads) ∧
    (t.fD ≠ s.fD → named [.cld, .sed, .brk, .cop] ∨ loads) ∧
    (t.fI ≠ s.fI → named [.cli, .sei, .brk, .cop] ∨ loads) ∧
    (t.fM ≠ s.fM ∨ t.fX ≠ s.fX →
      loads ∧ s.fE = false ∨ mnemonicOf i = .xce ∧ t.fE ≠ s.fE ∧ t.fM = t.fE ∧ t.fX = t.fE) ∧
    (t.fE ≠ s.fE → mnemonicOf i = .xce)

/-- Which instructions write which register, in a legal state: an instruction not named for a register leaves it
unchanged (R20 to R23, R25 to R27). -/
def Obligations.RegisterWriters : Prop :=
  ∀ (i : Instr) (s t : State), Inv s → exec i s = .next t →
    let named := fun (l : List Mnemonic) => mnemonicOf i ∈ l
    let truncates := named [.plp, .rti, .sep, .xce]
    let stack := named [.pha, .phx, .phy, .php, .phb, .phd, .phk, .pla, .plx, .ply, .plp, .plb, .pld, .pea, .pei,
      .per, .jsr, .jsl, .rts, .rtl, .rti, .brk, .cop]
    (t.a ≠ s.a →
      named [.ora, .and, .eor, .adc, .sbc, .lda, .txa, .tya, .tsc, .tdc, .xba, .pla, .mvn, .mvp] ∨
      i ∈ [.aslAcc, .lsrAcc, .rolAcc, .rorAcc, .incAcc, .decAcc]) ∧
    (s.fM = true → hiByte t.a ≠ hiByte s.a → named [.tsc, .tdc, .xba, .mvn, .mvp]) ∧
    (t.x ≠ s.x → named [.ldx, .tax, .tsx, .tyx, .inx, .dex, .plx, .mvn, .mvp] ∨ truncates) ∧
    (t.y ≠ s.y → named [.ldy, .tay, .txy, .iny, .dey, .ply, .mvn, .mvp] ∨ truncates) ∧
    (t.sp ≠ s.sp → stack ∨ named [.tcs, .txs, .xce]) ∧
    (t.dp ≠ s.dp → named [.tcd, .pld]) ∧
    (t.k ≠ s.k → named [.jml, .jsl, .rtl, .brk, .cop] ∨ mnemonicOf i = .rti ∧ s.fE = false) ∧
    (t.db ≠ s.db → named [.plb, .mvn, .mvp])

/-- Which instructions store: every other one leaves the whole memory as it was. -/
def Obligations.MemoryWriters : Prop :=
  ∀ (i : Instr) (s t : State), exec i s = .next t → t.mem ≠ s.mem →
    mnemonicOf i ∈ [.sta, .stx, .sty, .stz, .tsb, .trb, .pha, .phx, .phy, .php, .phb, .phd, .phk, .pea, .pei, .per,
      .jsr, .jsl, .brk, .cop, .mvn, .mvp] ∨
    mnemonicOf i ∈ [.asl, .lsr, .rol, .ror, .inc, .dec] ∧ (operandOf i).isSome = true

/-- Which instructions write a latch (R31 to R36): only WAI sets `waiting`, only STP sets `stopped`, none touches
`resetWanted`, and the request latches move only by what the host does during a bus cycle. -/
def Obligations.LatchWriters : Prop :=
  ∀ (i : Instr) (s t : State), exec i s = .next t →
    (t.waiting ≠ s.waiting → mnemonicOf i = .wai ∧ t.waiting = true) ∧
    (t.stopped ≠ s.stopped → mnemonicOf i = .stp ∧ t.stopped = true) ∧
    t.resetWanted = s.resetWanted ∧ t.stepStartPoll = s.stepStartPoll ∧
    (s.nmiWanted = true → t.nmiWanted = true) ∧
    (Quiet s → Quiet t ∧ t.nmiWanted = s.nmiWanted ∧ t.irqWanted = s.irqWanted)

/-- Memory changes only by the bus: a byte that a step changed is one that a write event of the step names
(R60, R81). -/
def Obligations.StoresRecorded : Prop :=
  ∀ s t : State, memWf s.mem = true → step s = .next t →
    ∀ a : Nat, memRead t.mem a ≠ memRead s.mem a → ∃ r v, Event.write r v ∈ t.trace ∧ r.toNat = a

/-! ### The flag byte (10_state.md) -/

/-- The layout of the flag byte (R29, R40), and its round trip (R44). -/
def Obligations.FlagByte : Prop :=
  ∀ (s : State) (f : Byte),
    ((getFlags s).getLsbD 7 = s.fN ∧ (getFlags s).getLsbD 6 = s.fV ∧ (getFlags s).getLsbD 5 = s.fM ∧
      (getFlags s).getLsbD 4 = s.fX ∧ (getFlags s).getLsbD 3 = s.fD ∧ (getFlags s).getLsbD 2 = s.fI ∧
      (getFlags s).getLsbD 1 = s.fZ ∧ (getFlags s).getLsbD 0 = s.fC) ∧
    getFlags (setFlags f s) = (if s.fE then f ||| 0x30#8 else f) ∧
    (s.fE = true → (setFlags f s).fM = true ∧ (setFlags f s).fX = true ∧
      hiByte (setFlags f s).x = 0x00#8 ∧ hiByte (setFlags f s).y = 0x00#8)

/-! ### The calculators (40_addressing_modes.md) -/

/-- A calculator changes no register but PC and no flag, whatever the host does meanwhile (R110). -/
def Obligations.CalculatorFrame : Prop :=
  ∀ (o : MemOperand) (write : Bool) (s : State), ∃ nmi irq ticks tr,
    (address o write s).2 = { s with
      pc := s.pc + memOperandLength o
      nmiWanted := nmi
      irqWanted := irq
      hostTicks := ticks
      trace := tr }

/-- The direct-page calculators: the pair and the events of each (R112 to R119, R129). -/
def Obligations.DirectPageModes : Prop :=
  ∀ (s : State) (d : Byte) (write : Bool), Quiet s →
    let next := fun (evs : List Event) =>
      { s with pc := s.pc + 1, trace := s.trace ++ fetchEvent s 0 d :: (dpIdleEvents s ++ evs) }
    let off := s.dp + zextByte d
    let offX := s.dp + zextByte d + s.x
    let base := s.dp.toNat + d.toNat
    let bank := s.db.toNat * 0x10000
    let long := [Event.read (bank0 (off + 2)) (memRead s.mem (bank0 (off + 2)).toNat)]
    let p := wordAt s.mem (bank0 off) (bank0 (off + 1))
    (∃ q, address (.dp d) write s = (q, next []) ∧ PairIs q base 0x10000) ∧
    (∃ q, address (.dpx d) write s = (q, next [.idle false]) ∧ PairIs q (base + s.x.toNat) 0x10000) ∧
    (∃ q, address (.dpy d) write s = (q, next [.idle false]) ∧ PairIs q (base + s.y.toNat) 0x10000) ∧
    (∃ q, address (.idp d) write s = (q, next (pointerEvents s off)) ∧
      PairIs q (bank + pointerAt s base) 0x1000000) ∧
    (∃ q, address (.idx d) write s = (q, next (.idle false :: pointerEvents s offX)) ∧
      PairIs q (bank + pointerAt s (base + s.x.toNat)) 0x1000000) ∧
    (∃ q, address (.idy d) write s = (q, next (pointerEvents s off ++ penaltyEvents p s.y write s)) ∧
      PairIs q (bank + pointerAt s base + s.y.toNat) 0x1000000) ∧
    (∃ q, address (.idl d) write s = (q, next (pointerEvents s off ++ long)) ∧
      PairIs q (longPointerAt s base) 0x1000000) ∧
    (∃ q, address (.ily d) write s = (q, next (pointerEvents s off ++ long)) ∧
      PairIs q (longPointerAt s base + s.y.toNat) 0x1000000)

/-- The stack-relative, absolute and long calculators: the pair and the events of each (R120 to R126, R129). -/
def Obligations.OtherModes : Prop :=
  ∀ (s : State) (d : Byte) (a : Word) (l : Addr) (write : Bool), Quiet s →
    let off := s.sp + zextByte d
    let nextSr := fun (evs : List Event) =>
      { s with pc := s.pc + 1, trace := s.trace ++ fetchEvent s 0 d :: .idle false :: evs }
    let nextAbs := fun (evs : List Event) =>
      { s with
        pc := s.pc + 2
        trace := s.trace ++ fetchEvent s 0 (loByte a) :: fetchEvent s 1 (hiByte a) :: evs }
    let nextLong :=
      { s with
        pc := s.pc + 3
        trace := s.trace ++ [fetchEvent s 0 (loByte (addrOffset l)), fetchEvent s 1 (hiByte (addrOffset l)),
          fetchEvent s 2 (addrBank l)] }
    let bank := s.db.toNat * 0x10000
    (∃ q, address (.sr d) write s = (q, nextSr []) ∧ PairIs q (s.sp.toNat + d.toNat) 0x10000) ∧
    (∃ q, address (.isy d) write s = (q, nextSr (pointerEvents s off ++ [.idle false])) ∧
      PairIs q (bank + pointerAt s (s.sp.toNat + d.toNat) + s.y.toNat) 0x1000000) ∧
    (∃ q, address (.abs a) write s = (q, nextAbs []) ∧ PairIs q (bank + a.toNat) 0x1000000) ∧
    (∃ q, address (.abx a) write s = (q, nextAbs (penaltyEvents a s.x write s)) ∧
      PairIs q (bank + a.toNat + s.x.toNat) 0x1000000) ∧
    (∃ q, address (.aby a) write s = (q, nextAbs (penaltyEvents a s.y write s)) ∧
      PairIs q (bank + a.toNat + s.y.toNat) 0x1000000) ∧
    (∃ q, address (.abl l) write s = (q, nextLong) ∧ PairIs q l.toNat 0x1000000) ∧
    (∃ q, address (.alx l) write s = (q, nextLong) ∧ PairIs q (l.toNat + s.x.toNat) 0x1000000)

/-- The operand read, the operand write and the read-modify-write, byte by byte and in their order on the bus
(R130, R150, R155): the poll is immediately before the last bus cycle, a store writes low byte first, a
read-modify-write high byte first. -/
def Obligations.OperandBus : Prop :=
  ∀ (s : State) (p : AddrPair) (v : Word) (f : Word → State → Word × State), Quiet s →
    (∀ w t, ∃ n z c, (f w t).2 = { t with fN := n, fZ := z, fC := c }) →
    let lo := memRead s.mem p.lo.toNat
    let hi := memRead s.mem p.hi.toNat
    let polled := fun (evs : List Event) => { s with intWanted := pollValue s, trace := s.trace ++ evs }
    let poll := Event.poll (pollValue s)
    readOperand p true s = (zextByte lo, polled [poll, .read p.lo lo]) ∧
    readOperand p false s = (mkWord hi lo, polled [.read p.lo lo, poll, .read p.hi hi]) ∧
    writeOperand p v true s =
      { polled [poll, .write p.lo (loByte v)] with mem := memWrite s.mem p.lo.toNat (loByte v) } ∧
    writeOperand p v false s =
      { polled [.write p.lo (loByte v), poll, .write p.hi (hiByte v)] with
        mem := memWrite (memWrite s.mem p.lo.toNat (loByte v)) p.hi.toNat (hiByte v) } ∧
    (s.fM = true →
      let r := f (zextByte lo) { s with trace := s.trace ++ [.read p.lo lo, .idle false] }
      rmwAt p f s = { r.2 with
        intWanted := pollValue s
        mem := memWrite s.mem p.lo.toNat (loByte r.1)
        trace := s.trace ++ [.read p.lo lo, .idle false, poll, .write p.lo (loByte r.1)] }) ∧
    (s.fM = false →
      let r := f (mkWord hi lo) { s with trace := s.trace ++ [.read p.lo lo, .read p.hi hi, .idle false] }
      rmwAt p f s = { r.2 with
        intWanted := pollValue s
        mem := memWrite (memWrite s.mem p.hi.toNat (hiByte r.1)) p.lo.toNat (loByte r.1)
        trace := s.trace ++ [.read p.lo lo, .read p.hi hi, .idle false, .write p.hi (hiByte r.1), poll,
          .write p.lo (loByte r.1)] })

/-! ### Reads and arithmetic (41_alu_read.md) -/

/-- ORA, AND and EOR, all fifteen forms of each (R131, R132, R133). -/
def Obligations.LogicResult : Prop :=
  (∀ (m x : Bool) (b : OperandBytes),
    (∀ row ∈ accForms 0x00 m b, IsForm m x b .ora row) ∧ (∀ row ∈ accForms 0x20 m b, IsForm m x b .and row) ∧
    (∀ row ∈ accForms 0x40 m b, IsForm m x b .eor row)) ∧
  ∀ (i : Instr) (o : Operand) (s : State), Quiet s → operandOf i = some o →
    let v := operandValue o s.fM s
    let put := fun (r : Word) =>
      { s with
        a := mergeAcc s.fM s.a r
        fZ := isZeroW s.fM r
        fN := signW s.fM r
        pc := s.pc + operandLength s.fM o
        intWanted := pollValue s
        trace := readTrace o s.fM s }
    (mnemonicOf i = .ora → exec i s = .next (put (accW s ||| v))) ∧
    (mnemonicOf i = .and → exec i s = .next (put (accW s &&& v))) ∧
    (mnemonicOf i = .eor → exec i s = .next (put (accW s ^^^ v)))

/-- ADC, all fifteen forms (R134): in binary the 9- or 17-bit sum with V by its formula and C the carry, in decimal
what AdcDecimal gives (DecimalMeaning); N and Z of the final Aw. -/
def Obligations.AdcResult : Prop :=
  (∀ (m x : Bool) (b : OperandBytes), ∀ row ∈ accForms 0x60 m b, IsForm m x b .adc row) ∧
  ∀ (i : Instr) (o : Operand) (s : State), Quiet s → operandOf i = some o → mnemonicOf i = .adc →
    let v := operandValue o s.fM s
    let r := (accW s).toNat + v.toNat + s.fC.toNat
    let put := fun (aw : Word) (overflow carry : Bool) =>
      { s with
        a := mergeAcc s.fM s.a aw
        fZ := isZeroW s.fM aw
        fN := signW s.fM aw
        fV := overflow
        fC := carry
        pc := s.pc + operandLength s.fM o
        intWanted := pollValue s
        trace := readTrace o s.fM s }
    exec i s = .next (if s.fD then
        let q := adcDecimal s.fM (accW s) v s.fC
        put q.value q.overflow q.carry
      else put (BitVec.ofNat 16 (r % (maskNat s.fM + 1)))
        (signW s.fM (~~~(accW s ^^^ v) &&& (accW s ^^^ BitVec.ofNat 16 r))) (decide (maskNat s.fM < r)))

/-- SBC, all fifteen forms (R136): in binary `A - op - (1 - C)`, C the absence of a borrow, V the signed overflow of
the difference by ADC's formula on the complemented operand; in decimal what SbcDecimal gives (DecimalMeaning). -/
def Obligations.SbcResult : Prop :=
  (∀ (m x : Bool) (b : OperandBytes), ∀ row ∈ accForms 0xE0 m b, IsForm m x b .sbc row) ∧
  ∀ (i : Instr) (o : Operand) (s : State), Quiet s → operandOf i = some o → mnemonicOf i = .sbc →
    let v := operandValue o s.fM s
    let nop := BitVec.ofNat 16 (maskNat s.fM - v.toNat)
    let r : Int := (accW s).toNat - v.toNat - (1 - s.fC.toNat)
    let put := fun (aw : Word) (overflow carry : Bool) =>
      { s with
        a := mergeAcc s.fM s.a aw
        fZ := isZeroW s.fM aw
        fN := signW s.fM aw
        fV := overflow
        fC := carry
        pc := s.pc + operandLength s.fM o
        intWanted := pollValue s
        trace := readTrace o s.fM s }
    exec i s = .next (if s.fD then
        let q := sbcDecimal s.fM (accW s) v s.fC
        put q.value q.overflow q.carry
      else put (BitVec.ofInt 16 (r % (maskNat s.fM + 1)))
        (signW s.fM (~~~(accW s ^^^ nop) &&& (accW s ^^^ BitVec.ofInt 16 r))) (decide (0 ≤ r)))

/-- What the `adcDecimal` and `sbcDecimal` of AdcResult and SbcResult give. For all operands, valid BCD or not, the
nibbles from low to high (R135, R137): a nibble sum above 9 is raised by 6 in its nibble and carries, a nibble difference
below 0 is lowered by 6 in its nibble and borrows, any other stays; V is the formula on the signs, the sign of the result
taken from the top nibble before its correction; C is the last carry, or the absence of a last borrow. For valid BCD this
is the BCD sum or difference modulo 100 or 10000, valid BCD again. That invalid BCD follows the same algorithm is the
spec's decision D11 (log 11). -/
def Obligations.DecimalMeaning : Prop :=
  ∀ (w8 c : Bool) (a op : Word),
    let count := if w8 then 2 else 4
    let high := fun (v : Nat) => decide (8 ≤ v)
    let p := adcDecimal w8 a op c
    let q := sbcDecimal w8 a op c
    (∃ carry : Nat → Bool, carry 0 = c ∧ p.carry = carry count ∧ p.value.toNat < 16 ^ count ∧ ∀ k < count,
      let s := nibble k a + nibble k op + (carry k).toNat
      carry (k + 1) = decide (9 < s) ∧ nibble k p.value = (if 9 < s then (s + 6) % 16 else s) ∧
      (k + 1 = count → p.overflow =
        (high (nibble k a) == high (nibble k op) && high (nibble k a) != high (s % 16)))) ∧
    (∃ borrow : Nat → Bool, borrow 0 = !c ∧ q.carry = !borrow count ∧ q.value.toNat < 16 ^ count ∧ ∀ k < count,
      let d : Int := nibble k a - nibble k op - (borrow k).toNat
      borrow (k + 1) = decide (d < 0) ∧ (nibble k q.value : Int) = (if d < 0 then (d - 6) % 16 else d) ∧
      (k + 1 = count → q.overflow =
        (high (nibble k a) != high (nibble k op) && high (nibble k a) != high (d % 16).toNat))) ∧
    (validBcd w8 a = true → validBcd w8 op = true →
      let sum := fromBcd w8 a + fromBcd w8 op + c.toNat
      let diff : Int := fromBcd w8 a - fromBcd w8 op - (1 - c.toNat)
      validBcd w8 p.value = true ∧ fromBcd w8 p.value = sum % bcdModulus w8 ∧
        p.carry = decide (bcdModulus w8 ≤ sum) ∧
      validBcd w8 q.value = true ∧ (fromBcd w8 q.value : Int) = diff % bcdModulus w8 ∧ q.carry = decide (0 ≤ diff))

/-- ADC, then SEC, then SBC of the same operand, in any of the fifteen forms: Aw comes back if C was clear, and is one more
if C was set; in decimal mode for valid BCD, one more being the decimal successor. B when M = 1, and every other register
but PC, come back too. R146 says that A returns; that it holds up to the carry that went in is the spec's own reading,
derived from R134 and R136 (90_conflicts.md C7). -/
def Obligations.AdcSbcRoundTrip : Prop :=
  ∀ (i j : Instr) (o : Operand) (s : State), Quiet s → operandOf i = some o → operandOf j = some o →
    mnemonicOf i = .adc → mnemonicOf j = .sbc →
    (s.fD = true → validBcd s.fM (accW s) = true ∧ validBcd s.fM (operandValue o s.fM s) = true) →
    ∃ t u w, exec i s = .next t ∧ exec .sec t = .next u ∧ exec j u = .next w ∧
      (s.fM = true → hiByte w.a = hiByte s.a) ∧
      w.x = s.x ∧ w.y = s.y ∧ w.sp = s.sp ∧ w.dp = s.dp ∧ w.k = s.k ∧ w.db = s.db ∧ w.mem = s.mem ∧
      if s.fD then
        validBcd s.fM (accW w) = true ∧
        fromBcd s.fM (accW w) = (fromBcd s.fM (accW s) + s.fC.toNat) % bcdModulus s.fM
      else (accW w).toNat = ((accW s).toNat + s.fC.toNat) % (maskNat s.fM + 1)

/-- CMP, CPX and CPY, every form (R138, R139, R140): C when the register is at least the operand, Z when they are
equal, N the top bit of the difference; no register but PC changes. -/
def Obligations.CompareResult : Prop :=
  (∀ (m x : Bool) (b : OperandBytes),
    (∀ row ∈ accForms 0xC0 m b, IsForm m x b .cmp row) ∧
    (∀ row ∈ [(0xE0, .imm (b.imm x)), (0xE4, .mem (.dp b.b1)), (0xEC, .mem (.abs b.word))], IsForm m x b .cpx row) ∧
    (∀ row ∈ [(0xC0, .imm (b.imm x)), (0xC4, .mem (.dp b.b1)), (0xCC, .mem (.abs b.word))],
      IsForm m x b .cpy row)) ∧
  ∀ (i : Instr) (o : Operand) (s : State), Quiet s → operandOf i = some o →
    let compare := fun (w8 : Bool) (left : Word) =>
      let v := operandValue o w8 s
      { s with
        fC := decide (v.toNat ≤ left.toNat)
        fZ := left == v
        fN := signW w8 (left - v)
        pc := s.pc + operandLength w8 o
        intWanted := pollValue s
        trace := readTrace o w8 s }
    (mnemonicOf i = .cmp → exec i s = .next (compare s.fM (accW s))) ∧
    (mnemonicOf i = .cpx → exec i s = .next (compare s.fX (maskW s.fX s.x))) ∧
    (mnemonicOf i = .cpy → exec i s = .next (compare s.fX (maskW s.fX s.y)))

/-- BIT (R141): Z of A and the operand; N and V from the operand's top two bits, except in the immediate form. -/
def Obligations.BitResult : Prop :=
  (∀ (m x : Bool) (b : OperandBytes),
    ∀ row ∈ [(0x24, .mem (.dp b.b1)), (0x2C, .mem (.abs b.word)), (0x34, .mem (.dpx b.b1)),
      (0x3C, .mem (.abx b.word)), (0x89, .imm (b.imm m))], IsForm m x b .bit row) ∧
  ∀ (i : Instr) (o : Operand) (s : State), Quiet s → operandOf i = some o → mnemonicOf i = .bit →
    let v := operandValue o s.fM s
    let immediate := match o with
      | .imm _ => true
      | .mem _ => false
    exec i s = .next { s with
      fZ := accW s &&& v == 0
      fN := if immediate then s.fN else v.getLsbD (if s.fM then 7 else 15)
      fV := if immediate then s.fV else v.getLsbD (if s.fM then 6 else 14)
      pc := s.pc + operandLength s.fM o
      intWanted := pollValue s
      trace := readTrace o s.fM s }

/-- LDA, LDX and LDY, every form (R142, R143, R144). -/
def Obligations.LoadResult : Prop :=
  (∀ (m x : Bool) (b : OperandBytes),
    (∀ row ∈ accForms 0xA0 m b, IsForm m x b .lda row) ∧
    (∀ row ∈ [(0xA2, .imm (b.imm x)), (0xA6, .mem (.dp b.b1)), (0xAE, .mem (.abs b.word)),
      (0xB6, .mem (.dpy b.b1)), (0xBE, .mem (.aby b.word))], IsForm m x b .ldx row) ∧
    (∀ row ∈ [(0xA0, .imm (b.imm x)), (0xA4, .mem (.dp b.b1)), (0xAC, .mem (.abs b.word)),
      (0xB4, .mem (.dpx b.b1)), (0xBC, .mem (.abx b.word))], IsForm m x b .ldy row)) ∧
  ∀ (i : Instr) (o : Operand) (s : State), Quiet s → operandOf i = some o →
    let after := fun (w8 : Bool) =>
      let v := operandValue o w8 s
      { s with
        fZ := v == 0
        fN := signW w8 v
        pc := s.pc + operandLength w8 o
        intWanted := pollValue s
        trace := readTrace o w8 s }
    (mnemonicOf i = .lda → exec i s = .next { after s.fM with
      a := if s.fM then mkWord (hiByte s.a) (loByte (operandValue o s.fM s)) else operandValue o s.fM s }) ∧
    (mnemonicOf i = .ldx → exec i s = .next { after s.fX with x := operandValue o s.fX s }) ∧
    (mnemonicOf i = .ldy → exec i s = .next { after s.fX with y := operandValue o s.fX s })

/-! ### Stores and read-modify-write (42_store_rmw.md) -/

/-- STA, STX, STY and STZ, every form (R151 to R154): the register's one or two bytes at the addresses the calculator
gives with `write` true, every other byte of memory as before, no flag and no register but PC changed. -/
def Obligations.StoreResult : Prop :=
  (∀ (m x : Bool) (b : OperandBytes),
    (∀ row ∈ accMemForms 0x80 b, IsForm m x b .sta row) ∧
    (∀ row ∈ [(0x86, .mem (.dp b.b1)), (0x8E, .mem (.abs b.word)), (0x96, .mem (.dpy b.b1))], IsForm m x b .stx row) ∧
    (∀ row ∈ [(0x84, .mem (.dp b.b1)), (0x8C, .mem (.abs b.word)), (0x94, .mem (.dpx b.b1))], IsForm m x b .sty row) ∧
    (∀ row ∈ [(0x64, .mem (.dp b.b1)), (0x74, .mem (.dpx b.b1)), (0x9C, .mem (.abs b.word)),
      (0x9E, .mem (.abx b.word))], IsForm m x b .stz row)) ∧
  ∀ (i : Instr) (o : MemOperand) (s : State), Quiet s → memWf s.mem = true → operandOf i = some (.mem o) →
    let stored := fun (v : Word) (w8 : Bool) =>
      AnswersStoring (exec i s)
        { s with
          pc := s.pc + memOperandLength o
          intWanted := pollValue s
          trace := storeTrace o v w8 s }
        (bytesStored (address o true s).1 v w8 s)
    (mnemonicOf i = .sta → stored s.a s.fM) ∧
    (mnemonicOf i = .stx → stored s.x s.fX) ∧
    (mnemonicOf i = .sty → stored s.y s.fX) ∧
    (mnemonicOf i = .stz → stored 0 s.fM)

/-- ASL, LSR, ROL, ROR, INC and DEC on memory (R156 to R161): the result stored at the width of M at the addresses the
calculator gives with `write` true, N, Z and C of it, every other byte, flag and register but PC as before. -/
def Obligations.RmwMemoryResult : Prop :=
  (∀ (m x : Bool) (b : OperandBytes),
    (∀ row ∈ rmwForms 0x00 b, IsForm m x b .asl row) ∧ (∀ row ∈ rmwForms 0x20 b, IsForm m x b .rol row) ∧
    (∀ row ∈ rmwForms 0x40 b, IsForm m x b .lsr row) ∧ (∀ row ∈ rmwForms 0x60 b, IsForm m x b .ror row) ∧
    (∀ row ∈ rmwForms 0xC0 b, IsForm m x b .dec row) ∧ (∀ row ∈ rmwForms 0xE0 b, IsForm m x b .inc row)) ∧
  ∀ (i : Instr) (o : MemOperand) (s : State), Quiet s → memWf s.mem = true → operandOf i = some (.mem o) →
    let p := (address o true s).1
    let v := (valueAt p s.fM s).toNat
    let modulus := maskNat s.fM + 1
    let half := modulus / 2
    let result := fun (r : Nat) (c : Bool) =>
      AnswersStoring (exec i s)
        { s with
          fC := c
          fZ := r == 0
          fN := decide (half ≤ r)
          pc := s.pc + memOperandLength o
          intWanted := pollValue s
          trace := rmwTrace o (BitVec.ofNat 16 r) s }
        (bytesStored p (BitVec.ofNat 16 r) s.fM s)
    (mnemonicOf i = .asl → result (2 * v % modulus) (decide (half ≤ v))) ∧
    (mnemonicOf i = .lsr → result (v / 2) (v % 2 == 1)) ∧
    (mnemonicOf i = .rol → result ((2 * v + s.fC.toNat) % modulus) (decide (half ≤ v))) ∧
    (mnemonicOf i = .ror → result (v / 2 + s.fC.toNat * half) (v % 2 == 1)) ∧
    (mnemonicOf i = .inc → result ((v + 1) % modulus) s.fC) ∧
    (mnemonicOf i = .dec → result ((v + modulus - 1) % modulus) s.fC)

/-- TSB and TRB (R162, R163): Z from A and the operand as read, then the operand with A's bits set or reset. -/
def Obligations.TestBitsResult : Prop :=
  (∀ (m x : Bool) (b : OperandBytes),
    (∀ row ∈ [(0x04, .mem (.dp b.b1)), (0x0C, .mem (.abs b.word))], IsForm m x b .tsb row) ∧
    (∀ row ∈ [(0x14, .mem (.dp b.b1)), (0x1C, .mem (.abs b.word))], IsForm m x b .trb row)) ∧
  ∀ (i : Instr) (o : MemOperand) (s : State), Quiet s → memWf s.mem = true → operandOf i = some (.mem o) →
    let p := (address o true s).1
    let v := valueAt p s.fM s
    let stored := fun (r : Word) =>
      AnswersStoring (exec i s)
        { s with
          fZ := accW s &&& v == 0
          pc := s.pc + memOperandLength o
          intWanted := pollValue s
          trace := rmwTrace o r s }
        (bytesStored p r s.fM s)
    (mnemonicOf i = .tsb → stored (v ||| accW s)) ∧
    (mnemonicOf i = .trb → stored (v &&& ~~~(accW s)))

/-- The accumulator forms of ASL, LSR, ROL, ROR, INC and DEC (R164): the same functions on Aw, B kept when M is 1. -/
def Obligations.RmwAccumulatorResult : Prop :=
  (∀ (m x : Bool) (b : OperandBytes),
    decodeOp m x 0x0A b = .aslAcc ∧ decodeOp m x 0x2A b = .rolAcc ∧ decodeOp m x 0x4A b = .lsrAcc ∧
    decodeOp m x 0x6A b = .rorAcc ∧ decodeOp m x 0x1A b = .incAcc ∧ decodeOp m x 0x3A b = .decAcc) ∧
  ∀ s : State, Quiet s →
    let v := (accW s).toNat
    let modulus := maskNat s.fM + 1
    let half := modulus / 2
    let result := fun (r : Nat) (c : Bool) =>
      (Host.Outcome.next { afterImplied s with
        a := if s.fM then mkWord (hiByte s.a) (BitVec.ofNat 8 r) else BitVec.ofNat 16 r
        fC := c
        fZ := r == 0
        fN := decide (half ≤ r) } : Result)
    exec .aslAcc s = result (2 * v % modulus) (decide (half ≤ v)) ∧
    exec .lsrAcc s = result (v / 2) (v % 2 == 1) ∧
    exec .rolAcc s = result ((2 * v + s.fC.toNat) % modulus) (decide (half ≤ v)) ∧
    exec .rorAcc s = result (v / 2 + s.fC.toNat * half) (v % 2 == 1) ∧
    exec .incAcc s = result ((v + 1) % modulus) s.fC ∧
    exec .decAcc s = result ((v + modulus - 1) % modulus) s.fC

/-! ### Registers and flags (43_register_flag.md) -/

/-- CLC, SEC, CLI, SEI, CLD, SED and CLV (R181 to R186, R199): the implied access, whose poll still sees the old
flag, then the one flag. -/
def Obligations.FlagInstructions : Prop :=
  (∀ (m x : Bool) (b : OperandBytes),
    decodeOp m x 0x18 b = .clc ∧ decodeOp m x 0x38 b = .sec ∧ decodeOp m x 0x58 b = .cli ∧
    decodeOp m x 0x78 b = .sei ∧ decodeOp m x 0xD8 b = .cld ∧ decodeOp m x 0xF8 b = .sed ∧
    decodeOp m x 0xB8 b = .clv) ∧
  ∀ s : State, Quiet s →
    exec .clc s = .next { afterImplied s with fC := false } ∧
    exec .sec s = .next { afterImplied s with fC := true } ∧
    exec .cli s = .next { afterImplied s with fI := false } ∧
    exec .sei s = .next { afterImplied s with fI := true } ∧
    exec .cld s = .next { afterImplied s with fD := false } ∧
    exec .sed s = .next { afterImplied s with fD := true } ∧
    exec .clv s = .next { afterImplied s with fV := false }

/-- TAX, TAY, TXA, TYA, TXY, TYX and TSX (R187 to R190, R192, R197, R198): at the width of the destination. -/
def Obligations.IndexTransfers : Prop :=
  (∀ (m x : Bool) (b : OperandBytes),
    decodeOp m x 0xAA b = .tax ∧ decodeOp m x 0xA8 b = .tay ∧ decodeOp m x 0x8A b = .txa ∧
    decodeOp m x 0x98 b = .tya ∧ decodeOp m x 0x9B b = .txy ∧ decodeOp m x 0xBB b = .tyx ∧
    decodeOp m x 0xBA b = .tsx) ∧
  ∀ s : State, Quiet s →
    let index := fun (v : Word) => if s.fX then zextByte (loByte v) else v
    let zn := fun (w8 : Bool) (v : Word) => { afterImplied s with fZ := v == 0, fN := signW w8 v }
    let acc := fun (v : Word) =>
      if s.fM then { zn true (zextByte (loByte v)) with a := mkWord (hiByte s.a) (loByte v) }
      else { zn false v with a := v }
    exec .tax s = .next { zn s.fX (index s.a) with x := index s.a } ∧
    exec .tay s = .next { zn s.fX (index s.a) with y := index s.a } ∧
    exec .txy s = .next { zn s.fX (index s.x) with y := index s.x } ∧
    exec .tyx s = .next { zn s.fX (index s.y) with x := index s.y } ∧
    exec .tsx s = .next { zn s.fX (index s.sp) with x := index s.sp } ∧
    exec .txa s = .next (acc s.x) ∧
    exec .tya s = .next (acc s.y)

/-- TXS, TCS, TSC, TCD and TDC (R191, R193 to R196): sixteen bits whatever M and flag X are, SP in page $01 when E is
1, N and Z on sixteen bits except for the writers of SP, which change no flag. -/
def Obligations.PointerTransfers : Prop :=
  (∀ (m x : Bool) (b : OperandBytes),
    decodeOp m x 0x9A b = .txs ∧ decodeOp m x 0x1B b = .tcs ∧ decodeOp m x 0x3B b = .tsc ∧
    decodeOp m x 0x5B b = .tcd ∧ decodeOp m x 0x7B b = .tdc) ∧
  ∀ s : State, Quiet s →
    let pointer := fun (v : Word) => if s.fE then 0x0100#16 ||| (v &&& 0x00FF#16) else v
    let zn := fun (v : Word) => { afterImplied s with fZ := v == 0, fN := v.getLsbD 15 }
    exec .txs s = .next { afterImplied s with sp := pointer s.x } ∧
    exec .tcs s = .next { afterImplied s with sp := pointer s.a } ∧
    exec .tsc s = .next { zn s.sp with a := s.sp } ∧
    exec .tcd s = .next { zn s.a with dp := s.a } ∧
    exec .tdc s = .next { zn s.dp with a := s.dp }

/-- INX, INY, DEX and DEY (R200 to R203): one more or one less at the width of flag X, N and Z of it. -/
def Obligations.IndexSteps : Prop :=
  (∀ (m x : Bool) (b : OperandBytes),
    decodeOp m x 0xE8 b = .inx ∧ decodeOp m x 0xC8 b = .iny ∧ decodeOp m x 0xCA b = .dex ∧
    decodeOp m x 0x88 b = .dey) ∧
  ∀ s : State, Quiet s →
    let at_ := fun (n : Nat) => n % (maskNat s.fX + 1)
    let zn := fun (n : Nat) =>
      { afterImplied s with fZ := n == 0, fN := decide ((maskNat s.fX + 1) / 2 ≤ n) }
    let up := fun (v : Word) => at_ (v.toNat + 1)
    let down := fun (v : Word) => at_ (v.toNat + 0xFFFF)
    exec .inx s = .next { zn (up s.x) with x := BitVec.ofNat 16 (up s.x) } ∧
    exec .iny s = .next { zn (up s.y) with y := BitVec.ofNat 16 (up s.y) } ∧
    exec .dex s = .next { zn (down s.x) with x := BitVec.ofNat 16 (down s.x) } ∧
    exec .dey s = .next { zn (down s.y) with y := BitVec.ofNat 16 (down s.y) }

/-- XBA and XCE (R204, R205): the bytes of A exchanged, N and Z of the new low byte; C and E exchanged, and on a
change of E the widths, SP and the index registers as the new mode asks. -/
def Obligations.Exchanges : Prop :=
  (∀ (m x : Bool) (b : OperandBytes), decodeOp m x 0xEB b = .xba ∧ decodeOp m x 0xFB b = .xce) ∧
  ∀ s : State, Quiet s →
    exec .xba s = .next { s with
      a := mkWord (loByte s.a) (hiByte s.a)
      fZ := hiByte s.a == 0
      fN := (hiByte s.a).getLsbD 7
      intWanted := pollValue s
      trace := s.trace ++ [.idle false, .poll (pollValue s), .idle false] } ∧
    (s.fC = s.fE → exec .xce s = .next (afterImplied s)) ∧
    (s.fC = true → s.fE = false → exec .xce s = .next { afterImplied s with
      fE := true, fC := false, fM := true, fX := true
      sp := 0x0100#16 ||| (s.sp &&& 0x00FF#16), x := s.x &&& 0x00FF#16, y := s.y &&& 0x00FF#16 }) ∧
    (s.fC = false → s.fE = true → exec .xce s = .next { afterImplied s with
      fE := false, fC := true, fM := false, fX := false })

/-- NOP and WDM (R206, R207): nothing but their one access, and PC past WDM's signature byte. -/
def Obligations.NoOperations : Prop :=
  (∀ (m x : Bool) (b : OperandBytes), decodeOp m x 0xEA b = .nop ∧ decodeOp m x 0x42 b = .wdm b.b1) ∧
  ∀ (s : State) (sig : Byte), Quiet s →
    exec .nop s = .next (afterImplied s) ∧
    exec (.wdm sig) s = .next { s with
      pc := s.pc + 1
      intWanted := pollValue s
      trace := s.trace ++ [.poll (pollValue s), .read (pcAddr s) sig] }

/-- REP and SEP (R208, R209), flag by flag: a mask bit of 1 clears or sets its flag; with E = 1, M and flag X stay 1
and SP keeps to page $01; flag X = 1 clears the upper bytes of X and Y. -/
def Obligations.RepSep : Prop :=
  (∀ (m x : Bool) (b : OperandBytes), decodeOp m x 0xC2 b = .rep b.b1 ∧ decodeOp m x 0xE2 b = .sep b.b1) ∧
  ∀ (s : State) (mask : Byte), Quiet s →
    let after := fun (f : Bool → Nat → Bool) =>
      let width := fun (old : Bool) (n : Nat) => s.fE || f old n
      let index := fun (v : Word) => if width s.fX 4 then v &&& 0x00FF#16 else v
      { s with
        fN := f s.fN 7, fV := f s.fV 6, fM := width s.fM 5, fX := width s.fX 4
        fD := f s.fD 3, fI := f s.fI 2, fZ := f s.fZ 1, fC := f s.fC 0
        sp := if s.fE then 0x0100#16 ||| (s.sp &&& 0x00FF#16) else s.sp
        x := index s.x
        y := index s.y
        pc := s.pc + 1
        intWanted := pollValue s
        trace := s.trace ++ [.read (pcAddr s) mask, .poll (pollValue s), .idle false] }
    exec (.rep mask) s = .next (after fun old n => old && !mask.getLsbD n) ∧
    exec (.sep mask) s = .next (after fun old n => old || mask.getLsbD n)

/-! ### The stack (44_stack.md) -/

/-- PHA, PHX, PHY, PHP, PHB, PHD and PHK (R230 to R237): the shapes of the 8-bit and the 16-bit push, no flag and no
register but SP changed. -/
def Obligations.Pushes : Prop :=
  (∀ (m x : Bool) (b : OperandBytes),
    decodeOp m x 0x48 b = .pha ∧ decodeOp m x 0xDA b = .phx ∧ decodeOp m x 0x5A b = .phy ∧
    decodeOp m x 0x08 b = .php ∧ decodeOp m x 0x8B b = .phb ∧ decodeOp m x 0x0B b = .phd ∧
    decodeOp m x 0x4B b = .phk) ∧
  ∀ s : State, Quiet s → memWf s.mem = true →
    (if s.fM then Pushes8 (exec .pha s) s (loByte s.a) else Pushes16 (exec .pha s) s s.a) ∧
    (if s.fX then Pushes8 (exec .phx s) s (loByte s.x) else Pushes16 (exec .phx s) s s.x) ∧
    (if s.fX then Pushes8 (exec .phy s) s (loByte s.y) else Pushes16 (exec .phy s) s s.y) ∧
    Pushes8 (exec .php s) s (getFlags s) ∧
    Pushes8 (exec .phb s) s s.db ∧
    Pushes16 (exec .phd s) s s.dp ∧
    Pushes8 (exec .phk s) s s.k

/-- PLA, PLX, PLY, PLP, PLB and PLD (R238 to R243): the shapes of the 8-bit and the 16-bit pull, what is pulled put
where the instruction puts it, N and Z at its width; PLP through SetFlags. -/
def Obligations.Pulls : Prop :=
  (∀ (m x : Bool) (b : OperandBytes),
    decodeOp m x 0x68 b = .pla ∧ decodeOp m x 0xFA b = .plx ∧ decodeOp m x 0x7A b = .ply ∧
    decodeOp m x 0x28 b = .plp ∧ decodeOp m x 0xAB b = .plb ∧ decodeOp m x 0x2B b = .pld) ∧
  ∀ s : State, Quiet s →
    let b := stackByte s 1
    let v := stackWord s
    let pull8 := { afterPull8 s with fZ := b == 0, fN := b.getLsbD 7 }
    let pull16 := { afterPull16 s with fZ := v == 0, fN := v.getLsbD 15 }
    exec .pla s = .next (if s.fM then { pull8 with a := mkWord (hiByte s.a) b } else { pull16 with a := v }) ∧
    exec .plx s = .next (if s.fX then { pull8 with x := zextByte b } else { pull16 with x := v }) ∧
    exec .ply s = .next (if s.fX then { pull8 with y := zextByte b } else { pull16 with y := v }) ∧
    exec .plp s = .next (setFlags b (afterPull8 s)) ∧
    exec .plb s = .next { pull8 with db := b } ∧
    exec .pld s = .next { pull16 with dp := v }

/-- PEA, PEI and PER (R244, R245, R246): a 16-bit push of the constant, of the word in the direct page, or of PC after
the instruction plus the displacement; no flag and no register but PC and SP changed. -/
def Obligations.PushAddresses : Prop :=
  (∀ (m x : Bool) (b : OperandBytes),
    decodeOp m x 0xF4 b = .pea b.word ∧ decodeOp m x 0xD4 b = .pei b.b1 ∧ decodeOp m x 0x62 b = .per b.word) ∧
  ∀ (s : State) (c : Word) (d : Byte), Quiet s → memWf s.mem = true →
    let off := s.dp + zextByte d
    let pushed := fun (r : Result) (len : Word) (before : List Event) (v : Word) =>
      ∃ m, r = .next { s with
          mem := m
          pc := s.pc + len
          sp := spPushed s.fE s.sp 2
          intWanted := pollValue s
          trace := s.trace ++ before ++ [.write (bank0 s.sp) (hiByte v), .poll (pollValue s),
            .write (bank0 (spPushed s.fE s.sp 1)) (loByte v)] } ∧
        ∀ a, memRead m a = bytesPushed s.fE s.sp [hiByte v, loByte v] (memRead s.mem) a
    pushed (exec (.pea c) s) 2 [fetchEvent s 0 (loByte c), fetchEvent s 1 (hiByte c)] c ∧
    pushed (exec (.pei d) s) 1 (fetchEvent s 0 d :: (dpIdleEvents s ++ pointerEvents s off))
      (wordAt s.mem (bank0 off) (bank0 (off + 1))) ∧
    pushed (exec (.per c) s) 2 [fetchEvent s 0 (loByte c), fetchEvent s 1 (hiByte c), .idle false] (s.pc + 2 + c)

/-! ### Control flow (45_control_flow.md) -/

/-- The eight conditional branches, BRA and BRL (R260 to R270): the polls and idles of the template, PC moved by the
signed displacement inside bank K when taken, nothing else changed. -/
def Obligations.Branches : Prop :=
  (∀ (m x : Bool) (b : OperandBytes),
    decodeOp m x 0x10 b = .bpl b.b1 ∧ decodeOp m x 0x30 b = .bmi b.b1 ∧ decodeOp m x 0x50 b = .bvc b.b1 ∧
    decodeOp m x 0x70 b = .bvs b.b1 ∧ decodeOp m x 0x90 b = .bcc b.b1 ∧ decodeOp m x 0xB0 b = .bcs b.b1 ∧
    decodeOp m x 0xD0 b = .bne b.b1 ∧ decodeOp m x 0xF0 b = .beq b.b1 ∧ decodeOp m x 0x80 b = .bra b.b1 ∧
    decodeOp m x 0x82 b = .brl b.word) ∧
  ∀ (s : State) (d : Byte) (l : Word), Quiet s →
    let poll := Event.poll (pollValue s)
    (∀ row ∈ [(Instr.bpl d, s.fN = false), (.bmi d, s.fN = true), (.bvc d, s.fV = false), (.bvs d, s.fV = true),
        (.bcc d, s.fC = false), (.bcs d, s.fC = true), (.bne d, s.fZ = false), (.beq d, s.fZ = true),
        (.bra d, True)],
      (row.2 → exec row.1 s = .next { s with
        pc := BitVec.ofInt 16 (s.pc.toNat + 1 + d.toInt)
        intWanted := pollValue s
        trace := s.trace ++ [fetchEvent s 0 d, poll, .idle false] }) ∧
      (¬row.2 → exec row.1 s = .next { s with
        pc := s.pc + 1
        intWanted := pollValue s
        trace := s.trace ++ [poll, fetchEvent s 0 d] })) ∧
    exec (.brl l) s = .next { s with
      pc := BitVec.ofInt 16 (s.pc.toNat + 2 + l.toInt)
      intWanted := pollValue s
      trace := s.trace ++ [fetchEvent s 0 (loByte l), fetchEvent s 1 (hiByte l), poll, .idle false] }

/-- The five jumps (R271 to R275): JMP (a) and JML [a] through bank 0, with the page wrap of JMP (a) in emulation
mode; JMP (a,X) through bank K; only the JMLs write K. -/
def Obligations.Jumps : Prop :=
  (∀ (m x : Bool) (b : OperandBytes),
    decodeOp m x 0x4C b = .jmpAbs b.word ∧ decodeOp m x 0x5C b = .jmlLong b.long ∧
    decodeOp m x 0x6C b = .jmpInd b.word ∧ decodeOp m x 0x7C b = .jmpIax b.word ∧
    decodeOp m x 0xDC b = .jmlInd b.word) ∧
  ∀ (s : State) (a : Word) (l : Addr), Quiet s →
    let poll := Event.poll (pollValue s)
    let lo := fetchEvent s 0 (loByte a)
    let hi := fetchEvent s 1 (hiByte a)
    let rd := fun (r : Addr) => Event.read r (memRead s.mem r.toNat)
    let jumped := fun (pc : Word) (evs : List Event) =>
      { s with pc := pc, intWanted := pollValue s, trace := s.trace ++ evs }
    let wrap := if s.fE = true ∧ loByte a = 0xFF#8 then bank0 (a &&& 0xFF00#16) else bank0 (a + 1)
    let tab := fun (n : Word) => bankAddr s.k (a + s.x + n)
    exec (.jmpAbs a) s = .next (jumped a [lo, poll, hi]) ∧
    exec (.jmlLong l) s = .next { jumped (addrOffset l) [fetchEvent s 0 (loByte (addrOffset l)),
      fetchEvent s 1 (hiByte (addrOffset l)), poll, fetchEvent s 2 (addrBank l)] with k := addrBank l } ∧
    exec (.jmpInd a) s = .next (jumped (wordAt s.mem (bank0 a) wrap) [lo, hi, rd (bank0 a), poll, rd wrap]) ∧
    exec (.jmpIax a) s = .next (jumped (wordAt s.mem (tab 0) (tab 1))
      [lo, hi, .idle false, rd (tab 0), poll, rd (tab 1)]) ∧
    exec (.jmlInd a) s = .next { jumped (wordAt s.mem (bank0 a) (bank0 (a + 1)))
      [lo, hi, rd (bank0 a), rd (bank0 (a + 1)), poll, rd (bank0 (a + 2))] with
      k := memRead s.mem (bank0 (a + 2)).toNat }

/-- JSR abs and JSL (R276, R278): the pushed word is the address of the instruction's last byte; JSL pushes K first
and fetches its bank byte after that push, as memory then holds it. -/
def Obligations.Calls : Prop :=
  (∀ (m x : Bool) (b : OperandBytes), decodeOp m x 0x20 b = .jsrAbs b.word ∧ decodeOp m x 0x22 b = .jsl b.long) ∧
  ∀ (s : State) (a : Word) (l : Addr), Quiet s → memWf s.mem = true →
    memRead s.mem (bankAddr s.k (s.pc + 2)).toNat = addrBank l →
    let poll := Event.poll (pollValue s)
    let ret := s.pc + 1
    let long := s.pc + 2
    let frame := [s.k, hiByte long, loByte long]
    let bank := bytesPushed s.fE s.sp [s.k] (memRead s.mem) (bankAddr s.k (s.pc + 2)).toNat
    (∃ m, exec (.jsrAbs a) s = .next { s with
        mem := m
        pc := a
        sp := spPushed s.fE s.sp 2
        intWanted := pollValue s
        trace := s.trace ++ [fetchEvent s 0 (loByte a), fetchEvent s 1 (hiByte a), .idle false,
          .write (bank0 s.sp) (hiByte ret), poll, .write (bank0 (spPushed s.fE s.sp 1)) (loByte ret)] } ∧
      ∀ c, memRead m c = bytesPushed s.fE s.sp [hiByte ret, loByte ret] (memRead s.mem) c) ∧
    (∃ m, exec (.jsl l) s = .next { s with
        mem := m
        pc := addrOffset l
        k := bank
        sp := spPushed s.fE s.sp 3
        intWanted := pollValue s
        trace := s.trace ++ [fetchEvent s 0 (loByte (addrOffset l)), fetchEvent s 1 (hiByte (addrOffset l)),
          .write (bank0 s.sp) s.k, .idle false, fetchEvent s 2 bank,
          .write (bank0 (spPushed s.fE s.sp 1)) (hiByte long), poll,
          .write (bank0 (spPushed s.fE s.sp 2)) (loByte long)] } ∧
      ∀ c, memRead m c = bytesPushed s.fE s.sp frame (memRead s.mem) c)

/-- JSR (a,X) (R277): the return word is pushed between the two operand fetches, so the second operand byte and the
pointer are what memory holds after the pushes; the pointer is in bank K. -/
def Obligations.CallIndexed : Prop :=
  (∀ (m x : Bool) (b : OperandBytes), decodeOp m x 0xFC b = .jsrIax b.word) ∧
  ∀ (s : State) (a : Word), Quiet s → memWf s.mem = true →
    memRead s.mem (bankAddr s.k (s.pc + 1)).toNat = hiByte a →
    let ret := s.pc + 1
    let bytes := bytesPushed s.fE s.sp [hiByte ret, loByte ret] (memRead s.mem)
    let high := bytes (bankAddr s.k (s.pc + 1)).toNat
    let tab := fun (n : Word) => bankAddr s.k (mkWord high (loByte a) + s.x + n)
    let rd := fun (r : Addr) => Event.read r (bytes r.toNat)
    ∃ m, exec (.jsrIax a) s = .next { s with
        mem := m
        pc := mkWord (bytes (tab 1).toNat) (bytes (tab 0).toNat)
        sp := spPushed s.fE s.sp 2
        intWanted := pollValue s
        trace := s.trace ++ [fetchEvent s 0 (loByte a), .write (bank0 s.sp) (hiByte ret),
          .write (bank0 (spPushed s.fE s.sp 1)) (loByte ret), fetchEvent s 1 high, .idle false, rd (tab 0),
          .poll (pollValue s), rd (tab 1)] } ∧
      ∀ c, memRead m c = bytes c

/-- RTS and RTL (R279, R280): the pulled word plus 1, and K for RTL. -/
def Obligations.Returns : Prop :=
  (∀ (m x : Bool) (b : OperandBytes), decodeOp m x 0x60 b = .rts ∧ decodeOp m x 0x6B b = .rtl) ∧
  ∀ s : State, Quiet s →
    let poll := Event.poll (pollValue s)
    let rd := fun (n : Nat) => Event.read (bank0 (spPulled s.fE s.sp n)) (stackByte s n)
    exec .rts s = .next { s with
      pc := stackWord s + 1
      sp := spPulled s.fE s.sp 2
      intWanted := pollValue s
      trace := s.trace ++ [.idle false, .idle false, rd 1, rd 2, poll, .idle false] } ∧
    exec .rtl s = .next { s with
      pc := stackWord s + 1
      k := stackByte s 3
      sp := spPulled s.fE s.sp 3
      intWanted := pollValue s
      trace := s.trace ++ [.idle false, .idle false, rd 1, rd 2, poll, rd 3] }

/-- RTI (R281), in a legal state: the flag byte through SetFlags, PC as pulled, and in native mode K; its poll sees the
I flag just pulled. -/
def Obligations.ReturnFromInterrupt : Prop :=
  (∀ (m x : Bool) (b : OperandBytes), decodeOp m x 0x40 b = .rti) ∧
  ∀ s : State, Quiet s → EmulationInv s →
    let rd := fun (n : Nat) => Event.read (bank0 (spPulled s.fE s.sp n)) (stackByte s n)
    let wanted := s.nmiWanted || (s.irqWanted && !(stackByte s 1).getLsbD 2)
    let common := { setFlags (stackByte s 1) s with
      pc := mkWord (stackByte s 3) (stackByte s 2)
      intWanted := wanted }
    (s.fE = true → exec .rti s = .next { common with
      sp := spPulled true s.sp 3
      trace := s.trace ++ [.idle false, .idle false, rd 1, rd 2, .poll wanted, rd 3] }) ∧
    (s.fE = false → exec .rti s = .next { common with
      sp := spPulled false s.sp 4
      k := stackByte s 4
      trace := s.trace ++ [.idle false, .idle false, rd 1, rd 2, rd 3, .poll wanted, rd 4] })

/-- BRK and COP take their exception (R282, R283, R284): the signature byte, the frame with the flag byte as GetFlags
gives it, I, D and K, the vector of the mode, and one poll, which already sees I = 1. -/
def Obligations.SoftwareInterrupts : Prop :=
  (∀ (m x : Bool) (b : OperandBytes), decodeOp m x 0x00 b = .brk b.b1 ∧ decodeOp m x 0x02 b = .cop b.b1) ∧
  ∀ (s : State) (sig : Byte), Quiet s → memWf s.mem = true →
    ∀ row ∈ [(Instr.brk sig, if s.fE then 0xFFFE#16 else 0xFFE6#16),
        (.cop sig, if s.fE then 0xFFF4#16 else 0xFFE4#16)],
      let frame := frameBytes s (s.pc + 1) (getFlags s)
      let bytes := bytesPushed s.fE s.sp frame (memRead s.mem)
      let rd := fun (v : Word) => Event.read (bank0 v) (bytes (bank0 v).toNat)
      ∃ m, exec row.1 s = .next { s with
          mem := m
          sp := spPushed s.fE s.sp frame.length
          fI := true
          fD := false
          k := 0x00#8
          pc := mkWord (bytes (bank0 (row.2 + 1)).toNat) (bytes (bank0 row.2).toNat)
          intWanted := s.nmiWanted
          trace := s.trace ++ fetchEvent s 0 sig :: pushEvents s.fE s.sp frame ++
            [rd row.2, .poll s.nmiWanted, rd (row.2 + 1)] } ∧
        ∀ a, memRead m a = bytes a

/-! ### Block moves, WAI and STP (46_block_wait.md) -/

/-- One step of MVN and MVP (R300, R301, R304): DB, one byte moved, A one less in all sixteen bits, X and Y moved at the
width of flag X, PC back at the opcode unless A has become $FFFF; no flag changes. -/
def Obligations.BlockMoves : Prop :=
  (∀ (m x : Bool) (b : OperandBytes),
    decodeOp m x 0x54 b = .mvn b.b1 b.b2 ∧ decodeOp m x 0x44 b = .mvp b.b1 b.b2) ∧
  ∀ (s : State) (dst src : Byte), Quiet s → memWf s.mem = true →
    ∀ row ∈ [(Instr.mvn dst src, 1), (.mvp dst src, 0xFFFF)],
      let b := memRead s.mem (bankAddr src s.x).toNat
      let moved := fun (v : Word) => BitVec.ofNat 16 ((v.toNat + row.2) % (maskNat s.fX + 1))
      ∃ m, exec row.1 s = .next { s with
          mem := m
          db := dst
          a := s.a - 1
          x := moved s.x
          y := moved s.y
          pc := if s.a = 0 then s.pc + 2 else s.pc - 1
          intWanted := pollValue s
          trace := s.trace ++ [fetchEvent s 0 dst, fetchEvent s 1 src, .read (bankAddr src s.x) b,
            .write (bankAddr dst s.y) b, .idle false, .poll (pollValue s), .idle false] } ∧
        ∀ a, memRead m a = if a = (bankAddr dst s.y).toNat then b else memRead s.mem a

/-- WAI and STP (R302, R303): the latch and two plain idles, no poll, nothing else. -/
def Obligations.WaitAndStop : Prop :=
  (∀ (m x : Bool) (b : OperandBytes), decodeOp m x 0xCB b = .wai ∧ decodeOp m x 0xDB b = .stp) ∧
  ∀ s : State, Quiet s →
    exec .wai s = .next { s with waiting := true, trace := s.trace ++ [.idle false, .idle false] } ∧
    exec .stp s = .next { s with stopped := true, trace := s.trace ++ [.idle false, .idle false] }

/-! ### Round trips over several instructions -/

/-- JSR abs then RTS, JSR (a,X) then RTS, and JSL then RTL, come back behind the call with SP and K as they were (R276 to
R280, R285), in a legal state. -/
def Obligations.CallReturn : Prop :=
  ∀ (s : State) (a : Word) (l : Addr), Quiet s → Inv s →
    ∀ row ∈ [(Instr.jsrAbs a, Instr.rts, s.pc + 2), (.jsrIax a, .rts, s.pc + 2), (.jsl l, .rtl, s.pc + 3)],
      ∃ t u, exec row.1 s = .next t ∧ exec row.2.1 t = .next u ∧ u.pc = row.2.2 ∧ u.k = s.k ∧ u.sp = s.sp

/-- BRK or COP, then RTI at once, resume behind the signature byte with P, SP and E as they were, and A, X, Y, DP, DB
untouched; K is as it was in native mode, and 0 in emulation mode, where it is cleared and not in the frame (R281, R284,
R324, R326). In a legal state. -/
def Obligations.ExceptionReturn : Prop :=
  ∀ (s : State) (sig : Byte), Quiet s → Inv s → ∀ i ∈ [Instr.brk sig, .cop sig],
    ∃ t u, exec i s = .next t ∧ exec .rti t = .next u ∧
      debugState u = { debugState s with
        pc := s.pc + 1
        k := if s.fE then 0x00#8 else s.k }

/-- A load sees the latest store (R81): after STA, STX, STY or STZ in any form, LDA, LDX or LDY in any form, in any state
with the memory the store left (its registers and flags may be others), puts the stored value into its register if its
width is that of the store and its address pair the same (at the 8-bit width, its low address). -/
def Obligations.StoreThenLoad : Prop :=
  ∀ (i j : Instr) (o q : MemOperand) (s : State), Quiet s → memWf s.mem = true →
    operandOf i = some (.mem o) → operandOf j = some (.mem q) →
    ∀ row ∈ [(Mnemonic.sta, s.a, s.fM), (.stx, s.x, s.fX), (.sty, s.y, s.fX), (.stz, 0, s.fM)], mnemonicOf i = row.1 →
      let v := row.2.1
      let w8 := row.2.2
      let loaded := if w8 then zextByte (loByte v) else v
      ∃ t, exec i s = .next t ∧ ∀ u : State, Quiet u → u.mem = t.mem →
        (address q false u).1.lo = (address o true s).1.lo →
        (w8 = false → (address q false u).1.hi = (address o true s).1.hi) →
        ∃ r, exec j u = .next r ∧
          (mnemonicOf j = .lda → u.fM = w8 → r.a = if w8 then mkWord (hiByte u.a) (loByte v) else v) ∧
          (mnemonicOf j = .ldx → u.fX = w8 → r.x = loaded) ∧
          (mnemonicOf j = .ldy → u.fX = w8 → r.y = loaded)

/-- An interrupt between two instructions loses nothing but, in emulation mode, K (R319, R326): from a legal state, an
interrupt entry followed by RTI is back at the same PC, with every other register and flag as before; K is as before in
native mode, and 0 in emulation mode, where it is cleared and not in the frame (R322, R324, R281). -/
def Obligations.InterruptResume : Prop :=
  ∀ s : State, Quiet s → Running s → Inv s → interruptDue s = true →
    ∃ t u, step s = .next t ∧ exec .rti t = .next u ∧
      debugState u = { debugState s with k := if s.fE then 0x00#8 else s.k }
end

