-- ==== Sys2Proof/Laws/Bits.lean ====
section
/-! SUPPORT. The byte, width and address helpers as arithmetic on numbers. -/

namespace Sys2Proof.Machine

theorem bankAddr_toNat (b : Byte) (w : Word) : (bankAddr b w).toNat = b.toNat * 0x10000 + w.toNat := by
  have h : (bankAddr b w).toNat = b.toNat <<< 16 ||| w.toNat := BitVec.toNat_append b w
  rw [h, ← Nat.shiftLeft_add_eq_or_of_lt w.isLt, Nat.shiftLeft_eq]

theorem bank0_toNat (w : Word) : (bank0 w).toNat = w.toNat := by
  simp [bank0, bankAddr_toNat]

theorem bank0_inj {a b : Word} (h : bank0 a = bank0 b) : a = b :=
  BitVec.eq_of_toNat_eq (by rw [← bank0_toNat a, h, bank0_toNat])

theorem mkWord_toNat (h l : Byte) : (mkWord h l).toNat = h.toNat * 0x100 + l.toNat := by
  have e : (mkWord h l).toNat = h.toNat <<< 8 ||| l.toNat := BitVec.toNat_append h l
  rw [e, ← Nat.shiftLeft_add_eq_or_of_lt l.isLt, Nat.shiftLeft_eq]

theorem loByte_toNat (v : Word) : (loByte v).toNat = v.toNat % 0x100 := by
  simp [loByte]

theorem hiByte_toNat (v : Word) : (hiByte v).toNat = v.toNat / 0x100 := by
  have := v.isLt
  simp only [hiByte, BitVec.extractLsb'_toNat, Nat.shiftRight_eq_div_pow]
  omega

theorem zextByte_toNat (b : Byte) : (zextByte b).toNat = b.toNat := by
  have := b.isLt
  simp only [zextByte, BitVec.toNat_setWidth]
  omega

theorem maskW_toNat (w8 : Bool) (v : Word) : (maskW w8 v).toNat = v.toNat % (maskNat w8 + 1) := by
  have := v.isLt
  cases w8
  · exact (Nat.mod_eq_of_lt this).symm
  · simp only [maskW, maskNat, BitVec.toNat_and, if_true]
    exact Nat.and_two_pow_sub_one_eq_mod v.toNat 8

theorem maskW_false (v : Word) : maskW false v = v := rfl

theorem maskW_true (v : Word) : maskW true v = zextByte (loByte v) :=
  BitVec.eq_of_toNat_eq (by simp [maskW_toNat, zextByte_toNat, loByte_toNat, maskNat])

theorem maskW_maskW (w8 : Bool) (v : Word) : maskW w8 (maskW w8 v) = maskW w8 v := by
  cases w8 <;> simp [maskW, BitVec.and_assoc]

/-- The sign of a width is the upper half of its range. -/
theorem signW_eq (w8 : Bool) (v : Word) :
    signW w8 v = decide ((maskNat w8 + 1) / 2 ≤ v.toNat % (maskNat w8 + 1)) := by
  have h := v.isLt
  cases w8
  · have e : signW false v = decide (v.toNat / 2 ^ 15 % 2 = 1) := Nat.testBit_eq_decide_div_mod_eq
    rw [e, decide_eq_decide]
    simp only [maskNat, Bool.false_eq_true, if_false]
    omega
  · have e : signW true v = decide (v.toNat / 2 ^ 7 % 2 = 1) := Nat.testBit_eq_decide_div_mod_eq
    rw [e, decide_eq_decide]
    simp only [maskNat, if_true]
    omega

theorem mkWord_hi_lo (v : Word) : mkWord (hiByte v) (loByte v) = v :=
  BitVec.eq_of_toNat_eq (by rw [mkWord_toNat, hiByte_toNat, loByte_toNat]; omega)

theorem hiByte_mkWord (h l : Byte) : hiByte (mkWord h l) = h :=
  BitVec.eq_of_toNat_eq (by have := l.isLt; rw [hiByte_toNat, mkWord_toNat]; omega)

theorem loByte_mkWord (h l : Byte) : loByte (mkWord h l) = l :=
  BitVec.eq_of_toNat_eq (by have := l.isLt; rw [loByte_toNat, mkWord_toNat]; omega)

theorem loByte_zextByte (b : Byte) : loByte (zextByte b) = b :=
  BitVec.eq_of_toNat_eq (by have := b.isLt; rw [loByte_toNat, zextByte_toNat]; omega)

theorem hiByte_zextByte (b : Byte) : hiByte (zextByte b) = 0x00#8 :=
  BitVec.eq_of_toNat_eq (by have := b.isLt; rw [hiByte_toNat, zextByte_toNat]; simp; omega)

theorem hiByte_maskW_true (v : Word) : hiByte (maskW true v) = 0x00#8 := by
  rw [maskW_true, hiByte_zextByte]

/-- A word whose high byte is zero is its low byte. -/
theorem zextByte_loByte {v : Word} (h : hiByte v = 0x00#8) : zextByte (loByte v) = v :=
  BitVec.eq_of_toNat_eq (by
    have e := congrArg BitVec.toNat h
    rw [hiByte_toNat, BitVec.toNat_ofNat] at e
    rw [zextByte_toNat, loByte_toNat]
    omega)

theorem hiByte_pageOne (v : Word) : hiByte (pageOne v) = 0x01#8 := hiByte_mkWord _ _

theorem pageOne_toNat (v : Word) : (pageOne v).toNat = 0x100 + v.toNat % 0x100 := by
  rw [pageOne, mkWord_toNat, loByte_toNat]; rfl

theorem pageOne_eq (v : Word) : pageOne v = 0x0100#16 ||| (v &&& 0x00FF#16) := by
  apply BitVec.eq_of_toNat_eq
  rw [pageOne_toNat, BitVec.toNat_or, BitVec.toNat_and]
  rw [show (0x00FF#16).toNat = 2 ^ 8 - 1 from rfl, Nat.and_two_pow_sub_one_eq_mod]
  have : v.toNat % 2 ^ 8 < 2 ^ 8 := Nat.mod_lt _ (by decide)
  rw [show (0x0100#16).toNat = 1 <<< 8 from rfl, ← Nat.shiftLeft_add_eq_or_of_lt this]
  rfl

/-- A word already in page $01. -/
theorem pageOne_of_hiByte {v : Word} (h : hiByte v = 0x01#8) : pageOne v = v :=
  BitVec.eq_of_toNat_eq (by
    have e := congrArg BitVec.toNat h
    rw [hiByte_toNat, BitVec.toNat_ofNat] at e
    rw [pageOne_toNat]
    omega)

theorem addr_bankAddr (a : Addr) : bankAddr (addrBank a) (addrOffset a) = a := by
  apply BitVec.eq_of_toNat_eq
  have := a.isLt
  rw [bankAddr_toNat]
  simp only [addrBank, addrOffset, BitVec.extractLsb'_toNat, Nat.shiftRight_eq_div_pow]
  omega

theorem addrOffset_bankAddr (b : Byte) (w : Word) : addrOffset (bankAddr b w) = w := by
  apply BitVec.eq_of_toNat_eq
  have := w.isLt
  simp only [addrOffset, BitVec.extractLsb'_toNat, bankAddr_toNat, Nat.shiftRight_eq_div_pow]
  omega

theorem addrBank_bankAddr (b : Byte) (w : Word) : addrBank (bankAddr b w) = b := by
  apply BitVec.eq_of_toNat_eq
  have := w.isLt
  have := b.isLt
  simp only [addrBank, BitVec.extractLsb'_toNat, bankAddr_toNat, Nat.shiftRight_eq_div_pow]
  omega

end Sys2Proof.Machine
end

