-- ==== Sys2Proof/Laws/Memory.lean ====
section
/-! SUPPORT. The basic laws of memory: a read after a write, and every operation keeps the canonical form. -/

namespace Sys2Proof.Machine

theorem memWfFrom_mono {lo lo' : Nat} (h : lo' ≤ lo) {m : List Host.Cell} (hm : memWfFrom lo m = true) :
    memWfFrom lo' m = true := by
  cases m with
  | nil => rfl
  | cons c rest =>
    obtain ⟨b, u⟩ := c
    simp only [memWfFrom, Bool.and_eq_true, decide_eq_true_eq] at hm ⊢
    exact ⟨⟨⟨h.trans hm.1.1.1, hm.1.1.2⟩, hm.1.2⟩, hm.2⟩

/-- Below the first listed address a memory reads as unlisted. -/
theorem memRead_below {lo : Nat} {m : List Host.Cell} (hm : memWfFrom lo m = true) {a : Nat} (h : a < lo) :
    memRead m a = Config.unwrittenByte := by
  induction m generalizing lo with
  | nil => rfl
  | cons c rest ih =>
    obtain ⟨b, u⟩ := c
    simp only [memWfFrom, Bool.and_eq_true, decide_eq_true_eq] at hm
    have hb : a ≠ b := by omega
    rw [memRead, if_neg hb]
    exact ih hm.2 (by omega)

theorem memRead_memCons {lo : Nat} {rest : List Host.Cell} (h : memWfFrom lo rest = true) {a : Nat} (ha : a < lo)
    (v : Byte) (c : Nat) : memRead (memCons a v rest) c = if c = a then v else memRead rest c := by
  unfold memCons
  by_cases hv : v = Config.unwrittenByte
  · by_cases hc : c = a
    · rw [if_pos hv, if_pos hc, hc, hv, memRead_below h ha]
    · rw [if_pos hv, if_neg hc]
  · rw [if_neg hv, memRead]

/-- A read after a write: the written byte at its address, the old byte at every other. -/
theorem memRead_memWrite_from {lo : Nat} {m : List Host.Cell} (hm : memWfFrom lo m = true) (a : Nat) (v : Byte)
    (c : Nat) : memRead (memWrite m a v) c = if c = a then v else memRead m c := by
  induction m generalizing lo with
  | nil => exact memRead_memCons (lo := a + 1) rfl (by omega) v c
  | cons d rest ih =>
    obtain ⟨b, u⟩ := d
    have hm' := hm
    simp only [memWfFrom, Bool.and_eq_true, decide_eq_true_eq] at hm
    rw [memWrite]
    split
    · next h =>
      refine memRead_memCons (lo := b) ?_ h v c
      simp only [memWfFrom, Bool.and_eq_true, decide_eq_true_eq]
      exact ⟨⟨⟨le_refl b, hm.1.1.2⟩, hm.1.2⟩, hm.2⟩
    · split
      · next h1 h2 =>
        subst h2
        rw [memRead_memCons (lo := a + 1) hm.2 (by omega), memRead]
        by_cases hc : c = a
        · rw [if_pos hc, if_pos hc]
        · rw [if_neg hc, if_neg hc, if_neg hc]
      · next h1 h2 =>
        rw [memRead, memRead, ih hm.2]
        by_cases hc : c = b
        · have : c ≠ a := by omega
          rw [if_pos hc, if_neg this, if_pos hc]
        · rw [if_neg hc, if_neg hc]

theorem memRead_memWrite {m : List Host.Cell} (hm : memWf m = true) (a : Nat) (v : Byte) (c : Nat) :
    memRead (memWrite m a v) c = if c = a then v else memRead m c :=
  memRead_memWrite_from hm a v c

theorem memWfFrom_memCons {lo a : Nat} (v : Byte) {rest : List Host.Cell} (hlo : lo ≤ a)
    (ha : a < Config.addressCount) (h : memWfFrom (a + 1) rest = true) :
    memWfFrom lo (memCons a v rest) = true := by
  unfold memCons
  split
  · exact memWfFrom_mono (by omega) h
  · next hv =>
    simp only [memWfFrom, Bool.and_eq_true, decide_eq_true_eq]
    exact ⟨⟨⟨hlo, ha⟩, hv⟩, h⟩

theorem memWfFrom_memWrite {lo : Nat} {m : List Host.Cell} (hm : memWfFrom lo m = true) {a : Nat} (v : Byte)
    (hlo : lo ≤ a) (ha : a < Config.addressCount) : memWfFrom lo (memWrite m a v) = true := by
  induction m generalizing lo with
  | nil => exact memWfFrom_memCons v hlo ha rfl
  | cons d rest ih =>
    obtain ⟨b, u⟩ := d
    simp only [memWfFrom, Bool.and_eq_true, decide_eq_true_eq] at hm
    rw [memWrite]
    split
    · next h =>
      refine memWfFrom_memCons v hlo ha ?_
      simp only [memWfFrom, Bool.and_eq_true, decide_eq_true_eq]
      exact ⟨⟨⟨h, hm.1.1.2⟩, hm.1.2⟩, hm.2⟩
    · split
      · next h1 h2 => exact memWfFrom_memCons v hlo ha (h2 ▸ hm.2)
      · next h1 h2 =>
        simp only [memWfFrom, Bool.and_eq_true, decide_eq_true_eq]
        exact ⟨⟨⟨hm.1.1.1, hm.1.1.2⟩, hm.1.2⟩, ih hm.2 (by omega)⟩

/-- Writing a byte keeps the canonical form. -/
theorem memWf_memWrite {m : List Host.Cell} (hm : memWf m = true) {a : Nat} (ha : a < Config.addressCount)
    (v : Byte) : memWf (memWrite m a v) = true :=
  memWfFrom_memWrite hm v (Nat.zero_le a) ha

theorem addr_lt (a : Addr) : a.toNat < Config.addressCount := a.isLt

/-- Writing at a bus address keeps the canonical form. -/
theorem memWf_memWrite_addr {m : List Host.Cell} (hm : memWf m = true) (a : Addr) (v : Byte) :
    memWf (memWrite m a.toNat v) = true :=
  memWf_memWrite hm (addr_lt a) v

/-- The bus write keeps the canonical form. -/
theorem memWf_busWrite {s : State} (hm : memWf s.mem = true) (a : Addr) (v : Byte) :
    memWf (busWrite a v s).mem = true :=
  memWf_memWrite_addr hm a v

theorem memWf_reset : memWf State.reset.mem = true := rfl

end Sys2Proof.Machine
end

