-- ==== Sys2Proof/Laws/State.lean ====
section
/-! SUPPORT. What each update of the state leaves in each field, for `simp`: one lemma for each field of each
update, every one true by `rfl`. -/

namespace Sys2Proof.Machine

/-! `cycle` -/

@[simp] theorem cycle_a (e : Event) (s : State) : (cycle e s).a = s.a := rfl
@[simp] theorem cycle_x (e : Event) (s : State) : (cycle e s).x = s.x := rfl
@[simp] theorem cycle_y (e : Event) (s : State) : (cycle e s).y = s.y := rfl
@[simp] theorem cycle_sp (e : Event) (s : State) : (cycle e s).sp = s.sp := rfl
@[simp] theorem cycle_pc (e : Event) (s : State) : (cycle e s).pc = s.pc := rfl
@[simp] theorem cycle_dp (e : Event) (s : State) : (cycle e s).dp = s.dp := rfl
@[simp] theorem cycle_k (e : Event) (s : State) : (cycle e s).k = s.k := rfl
@[simp] theorem cycle_db (e : Event) (s : State) : (cycle e s).db = s.db := rfl
@[simp] theorem cycle_fN (e : Event) (s : State) : (cycle e s).fN = s.fN := rfl
@[simp] theorem cycle_fV (e : Event) (s : State) : (cycle e s).fV = s.fV := rfl
@[simp] theorem cycle_fM (e : Event) (s : State) : (cycle e s).fM = s.fM := rfl
@[simp] theorem cycle_fX (e : Event) (s : State) : (cycle e s).fX = s.fX := rfl
@[simp] theorem cycle_fD (e : Event) (s : State) : (cycle e s).fD = s.fD := rfl
@[simp] theorem cycle_fI (e : Event) (s : State) : (cycle e s).fI = s.fI := rfl
@[simp] theorem cycle_fZ (e : Event) (s : State) : (cycle e s).fZ = s.fZ := rfl
@[simp] theorem cycle_fC (e : Event) (s : State) : (cycle e s).fC = s.fC := rfl
@[simp] theorem cycle_fE (e : Event) (s : State) : (cycle e s).fE = s.fE := rfl
@[simp] theorem cycle_nmiWanted (e : Event) (s : State) : (cycle e s).nmiWanted = (s.nmiWanted || (tickAt s 0).nmi) := rfl
@[simp] theorem cycle_irqWanted (e : Event) (s : State) : (cycle e s).irqWanted = (tickAt s 0).irq.getD s.irqWanted := rfl
@[simp] theorem cycle_intWanted (e : Event) (s : State) : (cycle e s).intWanted = s.intWanted := rfl
@[simp] theorem cycle_resetWanted (e : Event) (s : State) : (cycle e s).resetWanted = s.resetWanted := rfl
@[simp] theorem cycle_waiting (e : Event) (s : State) : (cycle e s).waiting = s.waiting := rfl
@[simp] theorem cycle_stopped (e : Event) (s : State) : (cycle e s).stopped = s.stopped := rfl
@[simp] theorem cycle_mem (e : Event) (s : State) : (cycle e s).mem = s.mem := rfl
@[simp] theorem cycle_hostTicks (e : Event) (s : State) : (cycle e s).hostTicks = s.hostTicks.tail := rfl
@[simp] theorem cycle_trace (e : Event) (s : State) : (cycle e s).trace = s.trace ++ [e] := rfl
@[simp] theorem cycle_stepStartPoll (e : Event) (s : State) : (cycle e s).stepStartPoll = s.stepStartPoll := rfl

/-! `idle` -/

@[simp] theorem idle_a (s : State) : (idle s).a = s.a := rfl
@[simp] theorem idle_x (s : State) : (idle s).x = s.x := rfl
@[simp] theorem idle_y (s : State) : (idle s).y = s.y := rfl
@[simp] theorem idle_sp (s : State) : (idle s).sp = s.sp := rfl
@[simp] theorem idle_pc (s : State) : (idle s).pc = s.pc := rfl
@[simp] theorem idle_dp (s : State) : (idle s).dp = s.dp := rfl
@[simp] theorem idle_k (s : State) : (idle s).k = s.k := rfl
@[simp] theorem idle_db (s : State) : (idle s).db = s.db := rfl
@[simp] theorem idle_fN (s : State) : (idle s).fN = s.fN := rfl
@[simp] theorem idle_fV (s : State) : (idle s).fV = s.fV := rfl
@[simp] theorem idle_fM (s : State) : (idle s).fM = s.fM := rfl
@[simp] theorem idle_fX (s : State) : (idle s).fX = s.fX := rfl
@[simp] theorem idle_fD (s : State) : (idle s).fD = s.fD := rfl
@[simp] theorem idle_fI (s : State) : (idle s).fI = s.fI := rfl
@[simp] theorem idle_fZ (s : State) : (idle s).fZ = s.fZ := rfl
@[simp] theorem idle_fC (s : State) : (idle s).fC = s.fC := rfl
@[simp] theorem idle_fE (s : State) : (idle s).fE = s.fE := rfl
@[simp] theorem idle_nmiWanted (s : State) : (idle s).nmiWanted = (s.nmiWanted || (tickAt s 0).nmi) := rfl
@[simp] theorem idle_irqWanted (s : State) : (idle s).irqWanted = (tickAt s 0).irq.getD s.irqWanted := rfl
@[simp] theorem idle_intWanted (s : State) : (idle s).intWanted = s.intWanted := rfl
@[simp] theorem idle_resetWanted (s : State) : (idle s).resetWanted = s.resetWanted := rfl
@[simp] theorem idle_waiting (s : State) : (idle s).waiting = s.waiting := rfl
@[simp] theorem idle_stopped (s : State) : (idle s).stopped = s.stopped := rfl
@[simp] theorem idle_mem (s : State) : (idle s).mem = s.mem := rfl
@[simp] theorem idle_hostTicks (s : State) : (idle s).hostTicks = s.hostTicks.tail := rfl
@[simp] theorem idle_trace (s : State) : (idle s).trace = s.trace ++ [.idle false] := rfl
@[simp] theorem idle_stepStartPoll (s : State) : (idle s).stepStartPoll = s.stepStartPoll := rfl

/-! `idleWait` -/

@[simp] theorem idleWait_a (s : State) : (idleWait s).a = s.a := rfl
@[simp] theorem idleWait_x (s : State) : (idleWait s).x = s.x := rfl
@[simp] theorem idleWait_y (s : State) : (idleWait s).y = s.y := rfl
@[simp] theorem idleWait_sp (s : State) : (idleWait s).sp = s.sp := rfl
@[simp] theorem idleWait_pc (s : State) : (idleWait s).pc = s.pc := rfl
@[simp] theorem idleWait_dp (s : State) : (idleWait s).dp = s.dp := rfl
@[simp] theorem idleWait_k (s : State) : (idleWait s).k = s.k := rfl
@[simp] theorem idleWait_db (s : State) : (idleWait s).db = s.db := rfl
@[simp] theorem idleWait_fN (s : State) : (idleWait s).fN = s.fN := rfl
@[simp] theorem idleWait_fV (s : State) : (idleWait s).fV = s.fV := rfl
@[simp] theorem idleWait_fM (s : State) : (idleWait s).fM = s.fM := rfl
@[simp] theorem idleWait_fX (s : State) : (idleWait s).fX = s.fX := rfl
@[simp] theorem idleWait_fD (s : State) : (idleWait s).fD = s.fD := rfl
@[simp] theorem idleWait_fI (s : State) : (idleWait s).fI = s.fI := rfl
@[simp] theorem idleWait_fZ (s : State) : (idleWait s).fZ = s.fZ := rfl
@[simp] theorem idleWait_fC (s : State) : (idleWait s).fC = s.fC := rfl
@[simp] theorem idleWait_fE (s : State) : (idleWait s).fE = s.fE := rfl
@[simp] theorem idleWait_nmiWanted (s : State) : (idleWait s).nmiWanted = (s.nmiWanted || (tickAt s 0).nmi) := rfl
@[simp] theorem idleWait_irqWanted (s : State) : (idleWait s).irqWanted = (tickAt s 0).irq.getD s.irqWanted := rfl
@[simp] theorem idleWait_intWanted (s : State) : (idleWait s).intWanted = s.intWanted := rfl
@[simp] theorem idleWait_resetWanted (s : State) : (idleWait s).resetWanted = s.resetWanted := rfl
@[simp] theorem idleWait_waiting (s : State) : (idleWait s).waiting = s.waiting := rfl
@[simp] theorem idleWait_stopped (s : State) : (idleWait s).stopped = s.stopped := rfl
@[simp] theorem idleWait_mem (s : State) : (idleWait s).mem = s.mem := rfl
@[simp] theorem idleWait_hostTicks (s : State) : (idleWait s).hostTicks = s.hostTicks.tail := rfl
@[simp] theorem idleWait_trace (s : State) : (idleWait s).trace = s.trace ++ [.idle true] := rfl
@[simp] theorem idleWait_stepStartPoll (s : State) : (idleWait s).stepStartPoll = s.stepStartPoll := rfl

/-! `busRead` -/

@[simp] theorem busRead_a (r : Addr) (s : State) : ((busRead r s).2).a = s.a := rfl
@[simp] theorem busRead_x (r : Addr) (s : State) : ((busRead r s).2).x = s.x := rfl
@[simp] theorem busRead_y (r : Addr) (s : State) : ((busRead r s).2).y = s.y := rfl
@[simp] theorem busRead_sp (r : Addr) (s : State) : ((busRead r s).2).sp = s.sp := rfl
@[simp] theorem busRead_pc (r : Addr) (s : State) : ((busRead r s).2).pc = s.pc := rfl
@[simp] theorem busRead_dp (r : Addr) (s : State) : ((busRead r s).2).dp = s.dp := rfl
@[simp] theorem busRead_k (r : Addr) (s : State) : ((busRead r s).2).k = s.k := rfl
@[simp] theorem busRead_db (r : Addr) (s : State) : ((busRead r s).2).db = s.db := rfl
@[simp] theorem busRead_fN (r : Addr) (s : State) : ((busRead r s).2).fN = s.fN := rfl
@[simp] theorem busRead_fV (r : Addr) (s : State) : ((busRead r s).2).fV = s.fV := rfl
@[simp] theorem busRead_fM (r : Addr) (s : State) : ((busRead r s).2).fM = s.fM := rfl
@[simp] theorem busRead_fX (r : Addr) (s : State) : ((busRead r s).2).fX = s.fX := rfl
@[simp] theorem busRead_fD (r : Addr) (s : State) : ((busRead r s).2).fD = s.fD := rfl
@[simp] theorem busRead_fI (r : Addr) (s : State) : ((busRead r s).2).fI = s.fI := rfl
@[simp] theorem busRead_fZ (r : Addr) (s : State) : ((busRead r s).2).fZ = s.fZ := rfl
@[simp] theorem busRead_fC (r : Addr) (s : State) : ((busRead r s).2).fC = s.fC := rfl
@[simp] theorem busRead_fE (r : Addr) (s : State) : ((busRead r s).2).fE = s.fE := rfl
@[simp] theorem busRead_nmiWanted (r : Addr) (s : State) : ((busRead r s).2).nmiWanted = (s.nmiWanted || (tickAt s 0).nmi) := rfl
@[simp] theorem busRead_irqWanted (r : Addr) (s : State) : ((busRead r s).2).irqWanted = (tickAt s 0).irq.getD s.irqWanted := rfl
@[simp] theorem busRead_intWanted (r : Addr) (s : State) : ((busRead r s).2).intWanted = s.intWanted := rfl
@[simp] theorem busRead_resetWanted (r : Addr) (s : State) : ((busRead r s).2).resetWanted = s.resetWanted := rfl
@[simp] theorem busRead_waiting (r : Addr) (s : State) : ((busRead r s).2).waiting = s.waiting := rfl
@[simp] theorem busRead_stopped (r : Addr) (s : State) : ((busRead r s).2).stopped = s.stopped := rfl
@[simp] theorem busRead_mem (r : Addr) (s : State) : ((busRead r s).2).mem = s.mem := rfl
@[simp] theorem busRead_hostTicks (r : Addr) (s : State) : ((busRead r s).2).hostTicks = s.hostTicks.tail := rfl
@[simp] theorem busRead_trace (r : Addr) (s : State) : ((busRead r s).2).trace = s.trace ++ [.read r (answerAt s 0 r)] := rfl
@[simp] theorem busRead_stepStartPoll (r : Addr) (s : State) : ((busRead r s).2).stepStartPoll = s.stepStartPoll := rfl

/-! `busWrite` -/

@[simp] theorem busWrite_a (r : Addr) (b : Byte) (s : State) : (busWrite r b s).a = s.a := rfl
@[simp] theorem busWrite_x (r : Addr) (b : Byte) (s : State) : (busWrite r b s).x = s.x := rfl
@[simp] theorem busWrite_y (r : Addr) (b : Byte) (s : State) : (busWrite r b s).y = s.y := rfl
@[simp] theorem busWrite_sp (r : Addr) (b : Byte) (s : State) : (busWrite r b s).sp = s.sp := rfl
@[simp] theorem busWrite_pc (r : Addr) (b : Byte) (s : State) : (busWrite r b s).pc = s.pc := rfl
@[simp] theorem busWrite_dp (r : Addr) (b : Byte) (s : State) : (busWrite r b s).dp = s.dp := rfl
@[simp] theorem busWrite_k (r : Addr) (b : Byte) (s : State) : (busWrite r b s).k = s.k := rfl
@[simp] theorem busWrite_db (r : Addr) (b : Byte) (s : State) : (busWrite r b s).db = s.db := rfl
@[simp] theorem busWrite_fN (r : Addr) (b : Byte) (s : State) : (busWrite r b s).fN = s.fN := rfl
@[simp] theorem busWrite_fV (r : Addr) (b : Byte) (s : State) : (busWrite r b s).fV = s.fV := rfl
@[simp] theorem busWrite_fM (r : Addr) (b : Byte) (s : State) : (busWrite r b s).fM = s.fM := rfl
@[simp] theorem busWrite_fX (r : Addr) (b : Byte) (s : State) : (busWrite r b s).fX = s.fX := rfl
@[simp] theorem busWrite_fD (r : Addr) (b : Byte) (s : State) : (busWrite r b s).fD = s.fD := rfl
@[simp] theorem busWrite_fI (r : Addr) (b : Byte) (s : State) : (busWrite r b s).fI = s.fI := rfl
@[simp] theorem busWrite_fZ (r : Addr) (b : Byte) (s : State) : (busWrite r b s).fZ = s.fZ := rfl
@[simp] theorem busWrite_fC (r : Addr) (b : Byte) (s : State) : (busWrite r b s).fC = s.fC := rfl
@[simp] theorem busWrite_fE (r : Addr) (b : Byte) (s : State) : (busWrite r b s).fE = s.fE := rfl
@[simp] theorem busWrite_nmiWanted (r : Addr) (b : Byte) (s : State) : (busWrite r b s).nmiWanted = (s.nmiWanted || (tickAt s 0).nmi) := rfl
@[simp] theorem busWrite_irqWanted (r : Addr) (b : Byte) (s : State) : (busWrite r b s).irqWanted = (tickAt s 0).irq.getD s.irqWanted := rfl
@[simp] theorem busWrite_intWanted (r : Addr) (b : Byte) (s : State) : (busWrite r b s).intWanted = s.intWanted := rfl
@[simp] theorem busWrite_resetWanted (r : Addr) (b : Byte) (s : State) : (busWrite r b s).resetWanted = s.resetWanted := rfl
@[simp] theorem busWrite_waiting (r : Addr) (b : Byte) (s : State) : (busWrite r b s).waiting = s.waiting := rfl
@[simp] theorem busWrite_stopped (r : Addr) (b : Byte) (s : State) : (busWrite r b s).stopped = s.stopped := rfl
@[simp] theorem busWrite_mem (r : Addr) (b : Byte) (s : State) : (busWrite r b s).mem = memWrite s.mem r.toNat b := rfl
@[simp] theorem busWrite_hostTicks (r : Addr) (b : Byte) (s : State) : (busWrite r b s).hostTicks = s.hostTicks.tail := rfl
@[simp] theorem busWrite_trace (r : Addr) (b : Byte) (s : State) : (busWrite r b s).trace = s.trace ++ [.write r b] := rfl
@[simp] theorem busWrite_stepStartPoll (r : Addr) (b : Byte) (s : State) : (busWrite r b s).stepStartPoll = s.stepStartPoll := rfl

/-! `fetchByte` -/

@[simp] theorem fetchByte_a (b : Byte) (s : State) : (fetchByte b s).a = s.a := rfl
@[simp] theorem fetchByte_x (b : Byte) (s : State) : (fetchByte b s).x = s.x := rfl
@[simp] theorem fetchByte_y (b : Byte) (s : State) : (fetchByte b s).y = s.y := rfl
@[simp] theorem fetchByte_sp (b : Byte) (s : State) : (fetchByte b s).sp = s.sp := rfl
@[simp] theorem fetchByte_pc (b : Byte) (s : State) : (fetchByte b s).pc = s.pc + 1 := rfl
@[simp] theorem fetchByte_dp (b : Byte) (s : State) : (fetchByte b s).dp = s.dp := rfl
@[simp] theorem fetchByte_k (b : Byte) (s : State) : (fetchByte b s).k = s.k := rfl
@[simp] theorem fetchByte_db (b : Byte) (s : State) : (fetchByte b s).db = s.db := rfl
@[simp] theorem fetchByte_fN (b : Byte) (s : State) : (fetchByte b s).fN = s.fN := rfl
@[simp] theorem fetchByte_fV (b : Byte) (s : State) : (fetchByte b s).fV = s.fV := rfl
@[simp] theorem fetchByte_fM (b : Byte) (s : State) : (fetchByte b s).fM = s.fM := rfl
@[simp] theorem fetchByte_fX (b : Byte) (s : State) : (fetchByte b s).fX = s.fX := rfl
@[simp] theorem fetchByte_fD (b : Byte) (s : State) : (fetchByte b s).fD = s.fD := rfl
@[simp] theorem fetchByte_fI (b : Byte) (s : State) : (fetchByte b s).fI = s.fI := rfl
@[simp] theorem fetchByte_fZ (b : Byte) (s : State) : (fetchByte b s).fZ = s.fZ := rfl
@[simp] theorem fetchByte_fC (b : Byte) (s : State) : (fetchByte b s).fC = s.fC := rfl
@[simp] theorem fetchByte_fE (b : Byte) (s : State) : (fetchByte b s).fE = s.fE := rfl
@[simp] theorem fetchByte_nmiWanted (b : Byte) (s : State) : (fetchByte b s).nmiWanted = (s.nmiWanted || (tickAt s 0).nmi) := rfl
@[simp] theorem fetchByte_irqWanted (b : Byte) (s : State) : (fetchByte b s).irqWanted = (tickAt s 0).irq.getD s.irqWanted := rfl
@[simp] theorem fetchByte_intWanted (b : Byte) (s : State) : (fetchByte b s).intWanted = s.intWanted := rfl
@[simp] theorem fetchByte_resetWanted (b : Byte) (s : State) : (fetchByte b s).resetWanted = s.resetWanted := rfl
@[simp] theorem fetchByte_waiting (b : Byte) (s : State) : (fetchByte b s).waiting = s.waiting := rfl
@[simp] theorem fetchByte_stopped (b : Byte) (s : State) : (fetchByte b s).stopped = s.stopped := rfl
@[simp] theorem fetchByte_mem (b : Byte) (s : State) : (fetchByte b s).mem = s.mem := rfl
@[simp] theorem fetchByte_hostTicks (b : Byte) (s : State) : (fetchByte b s).hostTicks = s.hostTicks.tail := rfl
@[simp] theorem fetchByte_trace (b : Byte) (s : State) : (fetchByte b s).trace = s.trace ++ [.read (pcAddr s) b] := rfl
@[simp] theorem fetchByte_stepStartPoll (b : Byte) (s : State) : (fetchByte b s).stepStartPoll = s.stepStartPoll := rfl

/-! `pushByte` -/

@[simp] theorem pushByte_a (b : Byte) (s : State) : (pushByte b s).a = s.a := rfl
@[simp] theorem pushByte_x (b : Byte) (s : State) : (pushByte b s).x = s.x := rfl
@[simp] theorem pushByte_y (b : Byte) (s : State) : (pushByte b s).y = s.y := rfl
@[simp] theorem pushByte_sp (b : Byte) (s : State) : (pushByte b s).sp = spDown s := rfl
@[simp] theorem pushByte_pc (b : Byte) (s : State) : (pushByte b s).pc = s.pc := rfl
@[simp] theorem pushByte_dp (b : Byte) (s : State) : (pushByte b s).dp = s.dp := rfl
@[simp] theorem pushByte_k (b : Byte) (s : State) : (pushByte b s).k = s.k := rfl
@[simp] theorem pushByte_db (b : Byte) (s : State) : (pushByte b s).db = s.db := rfl
@[simp] theorem pushByte_fN (b : Byte) (s : State) : (pushByte b s).fN = s.fN := rfl
@[simp] theorem pushByte_fV (b : Byte) (s : State) : (pushByte b s).fV = s.fV := rfl
@[simp] theorem pushByte_fM (b : Byte) (s : State) : (pushByte b s).fM = s.fM := rfl
@[simp] theorem pushByte_fX (b : Byte) (s : State) : (pushByte b s).fX = s.fX := rfl
@[simp] theorem pushByte_fD (b : Byte) (s : State) : (pushByte b s).fD = s.fD := rfl
@[simp] theorem pushByte_fI (b : Byte) (s : State) : (pushByte b s).fI = s.fI := rfl
@[simp] theorem pushByte_fZ (b : Byte) (s : State) : (pushByte b s).fZ = s.fZ := rfl
@[simp] theorem pushByte_fC (b : Byte) (s : State) : (pushByte b s).fC = s.fC := rfl
@[simp] theorem pushByte_fE (b : Byte) (s : State) : (pushByte b s).fE = s.fE := rfl
@[simp] theorem pushByte_nmiWanted (b : Byte) (s : State) : (pushByte b s).nmiWanted = (s.nmiWanted || (tickAt s 0).nmi) := rfl
@[simp] theorem pushByte_irqWanted (b : Byte) (s : State) : (pushByte b s).irqWanted = (tickAt s 0).irq.getD s.irqWanted := rfl
@[simp] theorem pushByte_intWanted (b : Byte) (s : State) : (pushByte b s).intWanted = s.intWanted := rfl
@[simp] theorem pushByte_resetWanted (b : Byte) (s : State) : (pushByte b s).resetWanted = s.resetWanted := rfl
@[simp] theorem pushByte_waiting (b : Byte) (s : State) : (pushByte b s).waiting = s.waiting := rfl
@[simp] theorem pushByte_stopped (b : Byte) (s : State) : (pushByte b s).stopped = s.stopped := rfl
@[simp] theorem pushByte_mem (b : Byte) (s : State) : (pushByte b s).mem = memWrite s.mem (bank0 s.sp).toNat b := rfl
@[simp] theorem pushByte_hostTicks (b : Byte) (s : State) : (pushByte b s).hostTicks = s.hostTicks.tail := rfl
@[simp] theorem pushByte_trace (b : Byte) (s : State) : (pushByte b s).trace = s.trace ++ [.write (bank0 s.sp) b] := rfl
@[simp] theorem pushByte_stepStartPoll (b : Byte) (s : State) : (pushByte b s).stepStartPoll = s.stepStartPoll := rfl

/-! `pullByte` -/

@[simp] theorem pullByte_a (s : State) : ((pullByte s).2).a = s.a := rfl
@[simp] theorem pullByte_x (s : State) : ((pullByte s).2).x = s.x := rfl
@[simp] theorem pullByte_y (s : State) : ((pullByte s).2).y = s.y := rfl
@[simp] theorem pullByte_sp (s : State) : ((pullByte s).2).sp = spUp s := rfl
@[simp] theorem pullByte_pc (s : State) : ((pullByte s).2).pc = s.pc := rfl
@[simp] theorem pullByte_dp (s : State) : ((pullByte s).2).dp = s.dp := rfl
@[simp] theorem pullByte_k (s : State) : ((pullByte s).2).k = s.k := rfl
@[simp] theorem pullByte_db (s : State) : ((pullByte s).2).db = s.db := rfl
@[simp] theorem pullByte_fN (s : State) : ((pullByte s).2).fN = s.fN := rfl
@[simp] theorem pullByte_fV (s : State) : ((pullByte s).2).fV = s.fV := rfl
@[simp] theorem pullByte_fM (s : State) : ((pullByte s).2).fM = s.fM := rfl
@[simp] theorem pullByte_fX (s : State) : ((pullByte s).2).fX = s.fX := rfl
@[simp] theorem pullByte_fD (s : State) : ((pullByte s).2).fD = s.fD := rfl
@[simp] theorem pullByte_fI (s : State) : ((pullByte s).2).fI = s.fI := rfl
@[simp] theorem pullByte_fZ (s : State) : ((pullByte s).2).fZ = s.fZ := rfl
@[simp] theorem pullByte_fC (s : State) : ((pullByte s).2).fC = s.fC := rfl
@[simp] theorem pullByte_fE (s : State) : ((pullByte s).2).fE = s.fE := rfl
@[simp] theorem pullByte_nmiWanted (s : State) : ((pullByte s).2).nmiWanted = (s.nmiWanted || (tickAt s 0).nmi) := rfl
@[simp] theorem pullByte_irqWanted (s : State) : ((pullByte s).2).irqWanted = (tickAt s 0).irq.getD s.irqWanted := rfl
@[simp] theorem pullByte_intWanted (s : State) : ((pullByte s).2).intWanted = s.intWanted := rfl
@[simp] theorem pullByte_resetWanted (s : State) : ((pullByte s).2).resetWanted = s.resetWanted := rfl
@[simp] theorem pullByte_waiting (s : State) : ((pullByte s).2).waiting = s.waiting := rfl
@[simp] theorem pullByte_stopped (s : State) : ((pullByte s).2).stopped = s.stopped := rfl
@[simp] theorem pullByte_mem (s : State) : ((pullByte s).2).mem = s.mem := rfl
@[simp] theorem pullByte_hostTicks (s : State) : ((pullByte s).2).hostTicks = s.hostTicks.tail := rfl
@[simp] theorem pullByte_trace (s : State) : ((pullByte s).2).trace = s.trace ++ [.read (bank0 (spUp s)) (answerAt s 0 (bank0 (spUp s)))] := rfl
@[simp] theorem pullByte_stepStartPoll (s : State) : ((pullByte s).2).stepStartPoll = s.stepStartPoll := rfl

/-! `poll` -/

@[simp] theorem poll_a (s : State) : (poll s).a = s.a := rfl
@[simp] theorem poll_x (s : State) : (poll s).x = s.x := rfl
@[simp] theorem poll_y (s : State) : (poll s).y = s.y := rfl
@[simp] theorem poll_sp (s : State) : (poll s).sp = s.sp := rfl
@[simp] theorem poll_pc (s : State) : (poll s).pc = s.pc := rfl
@[simp] theorem poll_dp (s : State) : (poll s).dp = s.dp := rfl
@[simp] theorem poll_k (s : State) : (poll s).k = s.k := rfl
@[simp] theorem poll_db (s : State) : (poll s).db = s.db := rfl
@[simp] theorem poll_fN (s : State) : (poll s).fN = s.fN := rfl
@[simp] theorem poll_fV (s : State) : (poll s).fV = s.fV := rfl
@[simp] theorem poll_fM (s : State) : (poll s).fM = s.fM := rfl
@[simp] theorem poll_fX (s : State) : (poll s).fX = s.fX := rfl
@[simp] theorem poll_fD (s : State) : (poll s).fD = s.fD := rfl
@[simp] theorem poll_fI (s : State) : (poll s).fI = s.fI := rfl
@[simp] theorem poll_fZ (s : State) : (poll s).fZ = s.fZ := rfl
@[simp] theorem poll_fC (s : State) : (poll s).fC = s.fC := rfl
@[simp] theorem poll_fE (s : State) : (poll s).fE = s.fE := rfl
@[simp] theorem poll_nmiWanted (s : State) : (poll s).nmiWanted = s.nmiWanted := rfl
@[simp] theorem poll_irqWanted (s : State) : (poll s).irqWanted = s.irqWanted := rfl
@[simp] theorem poll_intWanted (s : State) : (poll s).intWanted = pollValue s := rfl
@[simp] theorem poll_resetWanted (s : State) : (poll s).resetWanted = s.resetWanted := rfl
@[simp] theorem poll_waiting (s : State) : (poll s).waiting = s.waiting := rfl
@[simp] theorem poll_stopped (s : State) : (poll s).stopped = s.stopped := rfl
@[simp] theorem poll_mem (s : State) : (poll s).mem = s.mem := rfl
@[simp] theorem poll_hostTicks (s : State) : (poll s).hostTicks = s.hostTicks := rfl
@[simp] theorem poll_trace (s : State) : (poll s).trace = s.trace ++ [.poll (pollValue s)] := rfl
@[simp] theorem poll_stepStartPoll (s : State) : (poll s).stepStartPoll = s.stepStartPoll := rfl

/-! `setZN` -/

@[simp] theorem setZN_a (v : Word) (w8 : Bool) (s : State) : (setZN v w8 s).a = s.a := rfl
@[simp] theorem setZN_x (v : Word) (w8 : Bool) (s : State) : (setZN v w8 s).x = s.x := rfl
@[simp] theorem setZN_y (v : Word) (w8 : Bool) (s : State) : (setZN v w8 s).y = s.y := rfl
@[simp] theorem setZN_sp (v : Word) (w8 : Bool) (s : State) : (setZN v w8 s).sp = s.sp := rfl
@[simp] theorem setZN_pc (v : Word) (w8 : Bool) (s : State) : (setZN v w8 s).pc = s.pc := rfl
@[simp] theorem setZN_dp (v : Word) (w8 : Bool) (s : State) : (setZN v w8 s).dp = s.dp := rfl
@[simp] theorem setZN_k (v : Word) (w8 : Bool) (s : State) : (setZN v w8 s).k = s.k := rfl
@[simp] theorem setZN_db (v : Word) (w8 : Bool) (s : State) : (setZN v w8 s).db = s.db := rfl
@[simp] theorem setZN_fN (v : Word) (w8 : Bool) (s : State) : (setZN v w8 s).fN = signW w8 v := rfl
@[simp] theorem setZN_fV (v : Word) (w8 : Bool) (s : State) : (setZN v w8 s).fV = s.fV := rfl
@[simp] theorem setZN_fM (v : Word) (w8 : Bool) (s : State) : (setZN v w8 s).fM = s.fM := rfl
@[simp] theorem setZN_fX (v : Word) (w8 : Bool) (s : State) : (setZN v w8 s).fX = s.fX := rfl
@[simp] theorem setZN_fD (v : Word) (w8 : Bool) (s : State) : (setZN v w8 s).fD = s.fD := rfl
@[simp] theorem setZN_fI (v : Word) (w8 : Bool) (s : State) : (setZN v w8 s).fI = s.fI := rfl
@[simp] theorem setZN_fZ (v : Word) (w8 : Bool) (s : State) : (setZN v w8 s).fZ = isZeroW w8 v := rfl
@[simp] theorem setZN_fC (v : Word) (w8 : Bool) (s : State) : (setZN v w8 s).fC = s.fC := rfl
@[simp] theorem setZN_fE (v : Word) (w8 : Bool) (s : State) : (setZN v w8 s).fE = s.fE := rfl
@[simp] theorem setZN_nmiWanted (v : Word) (w8 : Bool) (s : State) : (setZN v w8 s).nmiWanted = s.nmiWanted := rfl
@[simp] theorem setZN_irqWanted (v : Word) (w8 : Bool) (s : State) : (setZN v w8 s).irqWanted = s.irqWanted := rfl
@[simp] theorem setZN_intWanted (v : Word) (w8 : Bool) (s : State) : (setZN v w8 s).intWanted = s.intWanted := rfl
@[simp] theorem setZN_resetWanted (v : Word) (w8 : Bool) (s : State) : (setZN v w8 s).resetWanted = s.resetWanted := rfl
@[simp] theorem setZN_waiting (v : Word) (w8 : Bool) (s : State) : (setZN v w8 s).waiting = s.waiting := rfl
@[simp] theorem setZN_stopped (v : Word) (w8 : Bool) (s : State) : (setZN v w8 s).stopped = s.stopped := rfl
@[simp] theorem setZN_mem (v : Word) (w8 : Bool) (s : State) : (setZN v w8 s).mem = s.mem := rfl
@[simp] theorem setZN_hostTicks (v : Word) (w8 : Bool) (s : State) : (setZN v w8 s).hostTicks = s.hostTicks := rfl
@[simp] theorem setZN_trace (v : Word) (w8 : Bool) (s : State) : (setZN v w8 s).trace = s.trace := rfl
@[simp] theorem setZN_stepStartPoll (v : Word) (w8 : Bool) (s : State) : (setZN v w8 s).stepStartPoll = s.stepStartPoll := rfl

/-! `setAccW` -/

@[simp] theorem setAccW_a (v : Word) (s : State) : (setAccW v s).a = mergeAcc s.fM s.a v := rfl
@[simp] theorem setAccW_x (v : Word) (s : State) : (setAccW v s).x = s.x := rfl
@[simp] theorem setAccW_y (v : Word) (s : State) : (setAccW v s).y = s.y := rfl
@[simp] theorem setAccW_sp (v : Word) (s : State) : (setAccW v s).sp = s.sp := rfl
@[simp] theorem setAccW_pc (v : Word) (s : State) : (setAccW v s).pc = s.pc := rfl
@[simp] theorem setAccW_dp (v : Word) (s : State) : (setAccW v s).dp = s.dp := rfl
@[simp] theorem setAccW_k (v : Word) (s : State) : (setAccW v s).k = s.k := rfl
@[simp] theorem setAccW_db (v : Word) (s : State) : (setAccW v s).db = s.db := rfl
@[simp] theorem setAccW_fN (v : Word) (s : State) : (setAccW v s).fN = s.fN := rfl
@[simp] theorem setAccW_fV (v : Word) (s : State) : (setAccW v s).fV = s.fV := rfl
@[simp] theorem setAccW_fM (v : Word) (s : State) : (setAccW v s).fM = s.fM := rfl
@[simp] theorem setAccW_fX (v : Word) (s : State) : (setAccW v s).fX = s.fX := rfl
@[simp] theorem setAccW_fD (v : Word) (s : State) : (setAccW v s).fD = s.fD := rfl
@[simp] theorem setAccW_fI (v : Word) (s : State) : (setAccW v s).fI = s.fI := rfl
@[simp] theorem setAccW_fZ (v : Word) (s : State) : (setAccW v s).fZ = s.fZ := rfl
@[simp] theorem setAccW_fC (v : Word) (s : State) : (setAccW v s).fC = s.fC := rfl
@[simp] theorem setAccW_fE (v : Word) (s : State) : (setAccW v s).fE = s.fE := rfl
@[simp] theorem setAccW_nmiWanted (v : Word) (s : State) : (setAccW v s).nmiWanted = s.nmiWanted := rfl
@[simp] theorem setAccW_irqWanted (v : Word) (s : State) : (setAccW v s).irqWanted = s.irqWanted := rfl
@[simp] theorem setAccW_intWanted (v : Word) (s : State) : (setAccW v s).intWanted = s.intWanted := rfl
@[simp] theorem setAccW_resetWanted (v : Word) (s : State) : (setAccW v s).resetWanted = s.resetWanted := rfl
@[simp] theorem setAccW_waiting (v : Word) (s : State) : (setAccW v s).waiting = s.waiting := rfl
@[simp] theorem setAccW_stopped (v : Word) (s : State) : (setAccW v s).stopped = s.stopped := rfl
@[simp] theorem setAccW_mem (v : Word) (s : State) : (setAccW v s).mem = s.mem := rfl
@[simp] theorem setAccW_hostTicks (v : Word) (s : State) : (setAccW v s).hostTicks = s.hostTicks := rfl
@[simp] theorem setAccW_trace (v : Word) (s : State) : (setAccW v s).trace = s.trace := rfl
@[simp] theorem setAccW_stepStartPoll (v : Word) (s : State) : (setAccW v s).stepStartPoll = s.stepStartPoll := rfl

/-! `setFlags` -/

@[simp] theorem setFlags_a (b : Byte) (s : State) : (setFlags b s).a = s.a := rfl
@[simp] theorem setFlags_x (b : Byte) (s : State) : (setFlags b s).x = (maskW (s.fE || b.getLsbD 4) s.x) := rfl
@[simp] theorem setFlags_y (b : Byte) (s : State) : (setFlags b s).y = (maskW (s.fE || b.getLsbD 4) s.y) := rfl
@[simp] theorem setFlags_sp (b : Byte) (s : State) : (setFlags b s).sp = if s.fE then pageOne s.sp else s.sp := rfl
@[simp] theorem setFlags_pc (b : Byte) (s : State) : (setFlags b s).pc = s.pc := rfl
@[simp] theorem setFlags_dp (b : Byte) (s : State) : (setFlags b s).dp = s.dp := rfl
@[simp] theorem setFlags_k (b : Byte) (s : State) : (setFlags b s).k = s.k := rfl
@[simp] theorem setFlags_db (b : Byte) (s : State) : (setFlags b s).db = s.db := rfl
@[simp] theorem setFlags_fN (b : Byte) (s : State) : (setFlags b s).fN = b.getLsbD 7 := rfl
@[simp] theorem setFlags_fV (b : Byte) (s : State) : (setFlags b s).fV = b.getLsbD 6 := rfl
@[simp] theorem setFlags_fM (b : Byte) (s : State) : (setFlags b s).fM = (s.fE || b.getLsbD 5) := rfl
@[simp] theorem setFlags_fX (b : Byte) (s : State) : (setFlags b s).fX = (s.fE || b.getLsbD 4) := rfl
@[simp] theorem setFlags_fD (b : Byte) (s : State) : (setFlags b s).fD = b.getLsbD 3 := rfl
@[simp] theorem setFlags_fI (b : Byte) (s : State) : (setFlags b s).fI = b.getLsbD 2 := rfl
@[simp] theorem setFlags_fZ (b : Byte) (s : State) : (setFlags b s).fZ = b.getLsbD 1 := rfl
@[simp] theorem setFlags_fC (b : Byte) (s : State) : (setFlags b s).fC = b.getLsbD 0 := rfl
@[simp] theorem setFlags_fE (b : Byte) (s : State) : (setFlags b s).fE = s.fE := rfl
@[simp] theorem setFlags_nmiWanted (b : Byte) (s : State) : (setFlags b s).nmiWanted = s.nmiWanted := rfl
@[simp] theorem setFlags_irqWanted (b : Byte) (s : State) : (setFlags b s).irqWanted = s.irqWanted := rfl
@[simp] theorem setFlags_intWanted (b : Byte) (s : State) : (setFlags b s).intWanted = s.intWanted := rfl
@[simp] theorem setFlags_resetWanted (b : Byte) (s : State) : (setFlags b s).resetWanted = s.resetWanted := rfl
@[simp] theorem setFlags_waiting (b : Byte) (s : State) : (setFlags b s).waiting = s.waiting := rfl
@[simp] theorem setFlags_stopped (b : Byte) (s : State) : (setFlags b s).stopped = s.stopped := rfl
@[simp] theorem setFlags_mem (b : Byte) (s : State) : (setFlags b s).mem = s.mem := rfl
@[simp] theorem setFlags_hostTicks (b : Byte) (s : State) : (setFlags b s).hostTicks = s.hostTicks := rfl
@[simp] theorem setFlags_trace (b : Byte) (s : State) : (setFlags b s).trace = s.trace := rfl
@[simp] theorem setFlags_stepStartPoll (b : Byte) (s : State) : (setFlags b s).stepStartPoll = s.stepStartPoll := rfl

@[simp] theorem busRead_value (r : Addr) (s : State) : (busRead r s).1 = answerAt s 0 r := rfl
@[simp] theorem pollIf_true (s : State) : pollIf true s = poll s := rfl
@[simp] theorem pollIf_false (s : State) : pollIf false s = s := rfl
@[simp] theorem spDown_eq (s : State) : spDown s = coerceSp s.fE (s.sp - 1) := rfl
@[simp] theorem spUp_eq (s : State) : spUp s = coerceSp s.fE (s.sp + 1) := rfl

end Sys2Proof.Machine
end

