-- ==== Sys2Proof/Laws/Quiet.lean ====
section
/-! SUPPORT. What each shared operation does while the host only answers from its memory: the value it gives and
the whole state after it, once for each operation. -/

namespace Sys2Proof.Machine

theorem tickAt_quiet {s : State} (h : s.hostTicks = []) (n : Nat) : tickAt s n = HostTick.quiet := by
  simp [tickAt, h]

theorem answerAt_quiet {s : State} (h : s.hostTicks = []) (n : Nat) (r : Addr) :
    answerAt s n r = memRead s.mem r.toNat := by
  simp [answerAt, tickAt_quiet h, HostTick.quiet]

theorem cycle_quiet {s : State} (h : s.hostTicks = []) (e : Event) :
    cycle e s = { s with trace := s.trace ++ [e] } := by
  simp [cycle, tickAt_quiet h, HostTick.quiet, h]

theorem idle_quiet {s : State} (h : s.hostTicks = []) : idle s = { s with trace := s.trace ++ [.idle false] } :=
  cycle_quiet h _

theorem idleWait_quiet {s : State} (h : s.hostTicks = []) :
    idleWait s = { s with trace := s.trace ++ [.idle true] } :=
  cycle_quiet h _

theorem busRead_quiet {s : State} (h : s.hostTicks = []) (r : Addr) :
    busRead r s = (memRead s.mem r.toNat, { s with trace := s.trace ++ [.read r (memRead s.mem r.toNat)] }) := by
  simp [busRead, answerAt_quiet h, cycle_quiet h]

theorem busWrite_quiet {s : State} (h : s.hostTicks = []) (r : Addr) (b : Byte) :
    busWrite r b s = { s with mem := memWrite s.mem r.toNat b, trace := s.trace ++ [.write r b] } := by
  rw [busWrite, cycle_quiet (by exact h)]

theorem poll_eq (s : State) :
    poll s = { s with intWanted := pollValue s, trace := s.trace ++ [.poll (pollValue s)] } := rfl

theorem fetchEvent_zero (s : State) (b : Byte) : fetchEvent s 0 b = .read (pcAddr s) b := by
  simp [fetchEvent, pcAddr]

theorem fetchByte_quiet {s : State} (h : s.hostTicks = []) (b : Byte) :
    fetchByte b s = { s with pc := s.pc + 1, trace := s.trace ++ [.read (pcAddr s) b] } := by
  simp [fetchByte, cycle_quiet h]

/-- The event of an optional poll. -/
def pollEvents (p : Bool) (s : State) : List Event := if p then [.poll (pollValue s)] else []

theorem pollIf_eq (p : Bool) (s : State) :
    pollIf p s = { s with
      intWanted := if p then pollValue s else s.intWanted
      trace := s.trace ++ pollEvents p s } := by
  cases p <;> simp [pollEvents, poll_eq]

theorem pushByte_quiet {s : State} (h : s.hostTicks = []) (b : Byte) :
    pushByte b s = { s with
      mem := memWrite s.mem (bank0 s.sp).toNat b
      sp := coerceSp s.fE (s.sp - 1)
      trace := s.trace ++ [.write (bank0 s.sp) b] } := by
  simp [pushByte, busWrite_quiet h]

theorem pullByte_quiet {s : State} (h : s.hostTicks = []) :
    pullByte s = (stackByte s 1, { s with
      sp := coerceSp s.fE (s.sp + 1)
      trace := s.trace ++ [.read (bank0 (coerceSp s.fE (s.sp + 1))) (stackByte s 1)] }) := by
  simp only [pullByte, spUp_eq, stackByte, spPulled]
  rw [busRead_quiet (by exact h)]

theorem add_one_one (w : Word) : w + 1 + 1 = w + 2 := by rw [BitVec.add_assoc]; rfl

theorem add_two_one (w : Word) : w + 2 + 1 = w + 3 := by rw [BitVec.add_assoc]; rfl

theorem fetchWord_quiet {s : State} (h : s.hostTicks = []) (w : Word) (p : Bool) :
    fetchWord w p s = { s with
      pc := s.pc + 2
      intWanted := if p then pollValue s else s.intWanted
      trace := s.trace ++ .read (pcAddr s) (loByte w) :: pollEvents p s ++
        [.read (bankAddr s.k (s.pc + 1)) (hiByte w)] } := by
  rw [fetchWord, fetchByte_quiet h, pollIf_eq, fetchByte_quiet (by exact h)]
  simp only [add_one_one, pollValue, pollEvents, pcAddr, List.append_assoc, List.cons_append, List.nil_append]

theorem readWord_quiet {s : State} (h : s.hostTicks = []) (lo hi : Addr) (p : Bool) :
    readWord lo hi p s = (wordAt s.mem lo hi, { s with
      intWanted := if p then pollValue s else s.intWanted
      trace := s.trace ++ .read lo (memRead s.mem lo.toNat) :: pollEvents p s ++
        [.read hi (memRead s.mem hi.toNat)] }) := by
  simp only [readWord]
  rw [busRead_quiet h, pollIf_eq, busRead_quiet (by exact h)]
  simp only [wordAt, pollValue, pollEvents, List.append_assoc, List.cons_append, List.nil_append]

theorem writeWord_quiet {s : State} (h : s.hostTicks = []) (lo hi : Addr) (v : Word) (rev p : Bool) :
    writeWord lo hi v rev p s = { s with
      mem := if rev then memWrite (memWrite s.mem hi.toNat (hiByte v)) lo.toNat (loByte v)
        else memWrite (memWrite s.mem lo.toNat (loByte v)) hi.toNat (hiByte v)
      intWanted := if p then pollValue s else s.intWanted
      trace := s.trace ++
        (if rev then .write hi (hiByte v) else .write lo (loByte v)) :: pollEvents p s ++
        [if rev then .write lo (loByte v) else .write hi (hiByte v)] } := by
  cases rev <;> cases p <;> simp [writeWord, busWrite_quiet, h, poll_eq, pollValue, pollEvents]

theorem pushWord_quiet {s : State} (h : s.hostTicks = []) (v : Word) (p : Bool) :
    pushWord v p s = { s with
      mem := memWrite (memWrite s.mem (bank0 s.sp).toNat (hiByte v)) (bank0 (coerceSp s.fE (s.sp - 1))).toNat (loByte v)
      sp := spPushed s.fE s.sp 2
      intWanted := if p then pollValue s else s.intWanted
      trace := s.trace ++ .write (bank0 s.sp) (hiByte v) :: pollEvents p s ++
        [.write (bank0 (coerceSp s.fE (s.sp - 1))) (loByte v)] } := by
  cases p <;> simp [pushWord, pushByte_quiet, h, poll_eq, pollValue, spPushed, pollEvents]

theorem pullWord_quiet {s : State} (h : s.hostTicks = []) (p : Bool) :
    pullWord p s = (mkWord (stackByte s 2) (stackByte s 1), { s with
      sp := spPulled s.fE s.sp 2
      intWanted := if p then pollValue s else s.intWanted
      trace := s.trace ++ .read (bank0 (spPulled s.fE s.sp 1)) (stackByte s 1) :: pollEvents p s ++
        [.read (bank0 (spPulled s.fE s.sp 2)) (stackByte s 2)] }) := by
  cases p <;> simp [pullWord, pullByte_quiet, h, poll_eq, pollValue, spPulled, stackByte, pollEvents]

theorem loadVector_quiet {s : State} (h : s.hostTicks = []) (v : Word) (p : Bool) :
    loadVector v p s = { s with
      pc := wordAt s.mem (bank0 v) (bank0 (v + 1))
      intWanted := if p then pollValue s else s.intWanted
      trace := s.trace ++ .read (bank0 v) (memRead s.mem (bank0 v).toNat) :: pollEvents p s ++
        [.read (bank0 (v + 1)) (memRead s.mem (bank0 (v + 1)).toNat)] } := by
  simp only [loadVector]
  rw [readWord_quiet h]

/-! ### Calculators -/

theorem adrImp_quiet {s : State} (h : s.hostTicks = []) :
    adrImp s = { s with
      intWanted := pollValue s
      trace := s.trace ++ [.poll (pollValue s),
        if pollValue s then .read (pcAddr s) (memRead s.mem (pcAddr s).toNat) else .idle false] } := by
  unfold adrImp
  by_cases hp : pollValue s = true <;> simp [hp, poll_eq, busRead_quiet, idle_quiet, h, pcAddr]

theorem dpIdle_quiet {s : State} (h : s.hostTicks = []) :
    dpIdle s = { s with trace := s.trace ++ if loByte s.dp = 0x00#8 then [] else [.idle false] } := by
  unfold dpIdle
  split
  · rw [List.append_nil]
  · rw [idle_quiet h]

theorem penalty_quiet {s : State} (h : s.hostTicks = []) (base index : Word) (write : Bool) :
    penalty base index write s = { s with
      trace := s.trace ++ if write || !s.fX || hiByte base != hiByte (base + index) then [.idle false] else [] } := by
  unfold penalty
  split
  · rw [idle_quiet h]
  · rw [List.append_nil]

theorem fetchDp_quiet {s : State} (h : s.hostTicks = []) (d : Byte) :
    fetchDp d s = { s with
      pc := s.pc + 1
      trace := s.trace ++ .read (pcAddr s) d :: if loByte s.dp = 0x00#8 then [] else [.idle false] } := by
  rw [fetchDp, fetchByte_quiet h, dpIdle_quiet (by exact h)]
  simp

theorem readPointer_quiet {s : State} (h : s.hostTicks = []) (off : Word) :
    readPointer off s = (wordAt s.mem (bank0 off) (bank0 (off + 1)), { s with
      trace := s.trace ++ [.read (bank0 off) (memRead s.mem (bank0 off).toNat),
        .read (bank0 (off + 1)) (memRead s.mem (bank0 (off + 1)).toNat)] }) := by
  rw [readPointer, readWord_quiet h]
  simp [pollEvents]

theorem readLongPointer_quiet {s : State} (h : s.hostTicks = []) (off : Word) :
    readLongPointer off s =
      (bankAddr (memRead s.mem (bank0 (off + 2)).toNat) (wordAt s.mem (bank0 off) (bank0 (off + 1))), { s with
        trace := s.trace ++ [.read (bank0 off) (memRead s.mem (bank0 off).toNat),
          .read (bank0 (off + 1)) (memRead s.mem (bank0 (off + 1)).toNat),
          .read (bank0 (off + 2)) (memRead s.mem (bank0 (off + 2)).toNat)] }) := by
  simp only [readLongPointer]
  rw [readPointer_quiet h, busRead_quiet (by exact h)]
  simp

/-- A calculator moves PC past the operand bytes and records events, and does nothing else (R110). -/
theorem address_quiet {s : State} (h : s.hostTicks = []) (o : MemOperand) (write : Bool) :
    ∃ tr, (address o write s).2 = { s with pc := s.pc + memOperandLength o, trace := tr } := by
  cases o <;>
    simp only [address, adrDp, adrDpx, adrDpy, adrIdp, adrIdx, adrIdy, adrIdl, adrIly, adrSr, adrIsy, adrAbs, adrAbx,
      adrAby, adrAbl, adrAlx, memOperandLength, fetchDp_quiet, fetchByte_quiet, fetchWord_quiet, idle_quiet,
      readPointer_quiet, readLongPointer_quiet, penalty_quiet, h, add_two_one] <;>
    exact ⟨_, rfl⟩

end Sys2Proof.Machine
end

