-- ==== Sys2Proof/Laws/Operands.lean ====
section
/-! SUPPORT. Reading, storing and modifying an operand while the host only answers from its memory: what each shared
operation can do, byte by byte. -/

namespace Sys2Proof.Machine

theorem longPair_ne (a : Addr) : (longPair a).lo ≠ (longPair a).hi := by
  simp only [longPair]
  bv_omega

theorem directPair_ne (w : Word) : (directPair w).lo ≠ (directPair w).hi := by
  intro h
  have := bank0_inj h
  bv_omega

/-- The two addresses of an operand differ. -/
theorem address_ne (o : MemOperand) (write : Bool) (s : State) :
    (address o write s).1.lo ≠ (address o write s).1.hi := by
  cases o
  case dp | dpx | dpy | sr => exact directPair_ne _
  all_goals exact longPair_ne _

theorem readOperand_quiet {s : State} (h : s.hostTicks = []) (p : AddrPair) (w8 : Bool) :
    readOperand p w8 s = (valueAt p w8 s, { s with
      intWanted := pollValue s
      trace := s.trace ++ if w8 then [.poll (pollValue s), .read p.lo (memRead s.mem p.lo.toNat)]
        else [.read p.lo (memRead s.mem p.lo.toNat), .poll (pollValue s), .read p.hi (memRead s.mem p.hi.toNat)] }) := by
  cases w8
  · simp [readOperand, readWord_quiet h, valueAt, wordAt, pollEvents]
  · simp [readOperand, poll_eq, busRead_quiet, h, valueAt]

theorem readImm_quiet {s : State} (h : s.hostTicks = []) (c : Word) (w8 : Bool) :
    readImm c w8 s = (if w8 then zextByte (loByte c) else c, { s with
      pc := s.pc + if w8 then 1 else 2
      intWanted := pollValue s
      trace := readTrace (.imm c) w8 s }) := by
  cases w8
  · simp only [readImm, readTrace, fetchEvent_zero, Bool.false_eq_true, if_false, if_true, fetchWord_quiet h, pollEvents,
      List.append_assoc, List.cons_append, List.nil_append]
    rfl
  · simp only [readImm, readTrace, fetchEvent_zero, if_true]
    rw [poll_eq, fetchByte_quiet (by exact h)]
    simp only [pcAddr, List.append_assoc, List.cons_append, List.nil_append]

/-- Reading a data operand (R130). -/
theorem readData_quiet {s : State} (h : s.hostTicks = []) (o : Operand) (w8 : Bool) :
    readData o w8 s = (operandValue o w8 s, { s with
      pc := s.pc + operandLength w8 o
      intWanted := pollValue s
      trace := readTrace o w8 s }) := by
  cases o with
  | imm c => exact readImm_quiet h c w8
  | mem m =>
    obtain ⟨tr, e⟩ := address_quiet h m false
    simp only [readData, readTrace]
    rw [e, readOperand_quiet (by exact h)]
    rfl

theorem writeOperand_quiet {s : State} (h : s.hostTicks = []) (p : AddrPair) (v : Word) (w8 : Bool) :
    writeOperand p v w8 s = { s with
      mem := if w8 then memWrite s.mem p.lo.toNat (loByte v)
        else memWrite (memWrite s.mem p.lo.toNat (loByte v)) p.hi.toNat (hiByte v)
      intWanted := pollValue s
      trace := s.trace ++ if w8 then [.poll (pollValue s), .write p.lo (loByte v)]
        else [.write p.lo (loByte v), .poll (pollValue s), .write p.hi (hiByte v)] } := by
  cases w8
  · simp [writeOperand, writeWord_quiet h, pollEvents]
  · simp [writeOperand, poll_eq, busWrite_quiet, h]

/-- The bytes of memory after the one or two writes of an operand, in either order. -/
theorem memRead_stored {s : State} (hm : memWf s.mem = true) {p : AddrPair} (hp : p.lo ≠ p.hi) (v : Word) (w8 rev : Bool)
    (a : Nat) :
    memRead (if w8 then memWrite s.mem p.lo.toNat (loByte v)
      else if rev then memWrite (memWrite s.mem p.hi.toNat (hiByte v)) p.lo.toNat (loByte v)
      else memWrite (memWrite s.mem p.lo.toNat (loByte v)) p.hi.toNat (hiByte v)) a = bytesStored p v w8 s a := by
  have hn : p.lo.toNat ≠ p.hi.toNat := fun e => hp (BitVec.eq_of_toNat_eq e)
  unfold bytesStored
  cases w8 <;> cases rev <;>
    simp only [Bool.false_eq_true, if_true, if_false, memRead_memWrite, memWf_memWrite_addr, hm, Bool.not_false,
      Bool.not_true, Bool.true_and, Bool.false_and, beq_iff_eq]
  by_cases h1 : a = p.lo.toNat <;> by_cases h2 : a = p.hi.toNat <;> simp_all

/-- A store (R150 to R154). -/
theorem storeData_quiet {s : State} (h : s.hostTicks = []) (hm : memWf s.mem = true) (o : MemOperand) (v : Word)
    (w8 : Bool) :
    ∃ m, storeData o v w8 s = { s with
        mem := m
        pc := s.pc + memOperandLength o
        intWanted := pollValue s
        trace := storeTrace o v w8 s } ∧
      ∀ a, memRead m a = bytesStored (address o true s).1 v w8 s a := by
  obtain ⟨tr, e⟩ := address_quiet h o true
  refine ⟨_, ?_, fun a => memRead_stored hm (address_ne o true s) v w8 false a⟩
  simp only [storeData, storeTrace]
  rw [e, writeOperand_quiet (by exact h)]
  rfl

/-- What the function of a read-modify-write instruction may touch. -/
def FlagsOnly (f : Word → State → Word × State) : Prop :=
  ∀ v s, ∃ n z c, (f v s).2 = { s with fN := n, fZ := z, fC := c }

theorem rmwAt_quiet8 {s : State} (h : s.hostTicks = []) (p : AddrPair) {f : Word → State → Word × State}
    (hf : FlagsOnly f) (hM : s.fM = true) :
    rmwAt p f s =
      let r := f (zextByte (memRead s.mem p.lo.toNat))
        { s with trace := s.trace ++ [.read p.lo (memRead s.mem p.lo.toNat), .idle false] }
      { r.2 with
        mem := memWrite s.mem p.lo.toNat (loByte r.1)
        intWanted := pollValue s
        trace := s.trace ++ [.read p.lo (memRead s.mem p.lo.toNat), .idle false, .poll (pollValue s),
          .write p.lo (loByte r.1)] } := by
  rw [rmwAt, if_pos hM, busRead_quiet h]
  dsimp only
  rw [idle_quiet (by exact h)]
  simp only [List.append_assoc, List.cons_append, List.nil_append]
  obtain ⟨n, z, c, e⟩ := hf (zextByte (memRead s.mem p.lo.toNat))
    { s with trace := s.trace ++ [.read p.lo (memRead s.mem p.lo.toNat), .idle false] }
  rw [e, poll_eq, busWrite_quiet (by exact h)]
  simp only [pollValue, List.append_assoc, List.cons_append, List.nil_append]

theorem rmwAt_quiet16 {s : State} (h : s.hostTicks = []) (p : AddrPair) {f : Word → State → Word × State}
    (hf : FlagsOnly f) (hM : s.fM = false) :
    rmwAt p f s =
      let r := f (wordAt s.mem p.lo p.hi) { s with trace := s.trace ++
        [.read p.lo (memRead s.mem p.lo.toNat), .read p.hi (memRead s.mem p.hi.toNat), .idle false] }
      { r.2 with
        mem := memWrite (memWrite s.mem p.hi.toNat (hiByte r.1)) p.lo.toNat (loByte r.1)
        intWanted := pollValue s
        trace := s.trace ++ [.read p.lo (memRead s.mem p.lo.toNat), .read p.hi (memRead s.mem p.hi.toNat),
          .idle false, .write p.hi (hiByte r.1), .poll (pollValue s), .write p.lo (loByte r.1)] } := by
  rw [rmwAt, if_neg (by rw [hM]; decide), readWord_quiet h]
  dsimp only
  rw [idle_quiet (by exact h)]
  simp only [pollEvents, Bool.false_eq_true, if_false, List.append_assoc, List.nil_append, List.cons_append]
  obtain ⟨n, z, c, e⟩ := hf (wordAt s.mem p.lo p.hi) { s with trace := s.trace ++
    [.read p.lo (memRead s.mem p.lo.toNat), .read p.hi (memRead s.mem p.hi.toNat), .idle false] }
  rw [e, writeWord_quiet (by exact h)]
  simp only [pollEvents, pollValue, if_true, List.append_assoc, List.cons_append, List.nil_append]

/-- A read-modify-write instruction on memory (R155); `t` is the state its function is applied in, which differs from
`s` in PC and the record of events alone. -/
theorem rmwMem_quiet {s : State} (h : s.hostTicks = []) (hm : memWf s.mem = true) (o : MemOperand)
    {f : Word → State → Word × State} (hf : FlagsOnly f) :
    ∃ m tr,
      let t := { s with pc := s.pc + memOperandLength o, trace := tr }
      let r := f (valueAt (address o true s).1 s.fM s) t
      rmwMem f o s = { r.2 with mem := m, intWanted := pollValue s, trace := rmwTrace o r.1 s } ∧
        ∀ a, memRead m a = bytesStored (address o true s).1 r.1 s.fM s a := by
  obtain ⟨tr, e⟩ := address_quiet h o true
  have et : (address o true s).2.trace = tr := by rw [e]
  rw [rmwMem, e]
  unfold rmwTrace
  dsimp only
  have hp := address_ne o true s
  generalize (address o true s).1 = p at hp
  have hq : ({ s with pc := s.pc + memOperandLength o, trace := tr } : State).hostTicks = [] := h
  by_cases hM : s.fM = true
  · have e8 := rmwAt_quiet8 hq p hf hM
    dsimp only at e8
    refine ⟨_, tr ++ [.read p.lo (memRead s.mem p.lo.toNat), .idle false], ?_,
      fun a => memRead_stored hm hp _ s.fM true a⟩
    have k {α : Type} (x y : α) : (if s.fM = true then x else y) = x := if_pos hM
    rw [e8]
    simp only [valueAt, k, et]
    rfl
  · rw [Bool.not_eq_true] at hM
    have e16 := rmwAt_quiet16 hq p hf hM
    dsimp only at e16
    refine ⟨_, tr ++ [.read p.lo (memRead s.mem p.lo.toNat), .read p.hi (memRead s.mem p.hi.toNat), .idle false], ?_,
      fun a => memRead_stored hm hp _ s.fM true a⟩
    have k {α : Type} (x y : α) : (if s.fM = true then x else y) = y := if_neg (by rw [hM]; decide)
    rw [e16]
    simp only [valueAt, k, if_true, et]
    rfl

theorem rmwAsl_flagsOnly : FlagsOnly rmwAsl := fun _ _ => ⟨_, _, _, rfl⟩
theorem rmwLsr_flagsOnly : FlagsOnly rmwLsr := fun _ _ => ⟨_, _, _, rfl⟩
theorem rmwRol_flagsOnly : FlagsOnly rmwRol := fun _ _ => ⟨_, _, _, rfl⟩
theorem rmwRor_flagsOnly : FlagsOnly rmwRor := fun _ _ => ⟨_, _, _, rfl⟩
theorem rmwInc_flagsOnly : FlagsOnly rmwInc := fun _ _ => ⟨_, _, _, rfl⟩
theorem rmwDec_flagsOnly : FlagsOnly rmwDec := fun _ _ => ⟨_, _, _, rfl⟩
theorem rmwTsb_flagsOnly : FlagsOnly rmwTsb := fun _ _ => ⟨_, _, _, rfl⟩
theorem rmwTrb_flagsOnly : FlagsOnly rmwTrb := fun _ _ => ⟨_, _, _, rfl⟩

theorem maskW_zextByte (b : Byte) : maskW true (zextByte b) = zextByte b := by
  rw [maskW_true, loByte_zextByte]

theorem maskW_valueAt (p : AddrPair) (w8 : Bool) (s : State) : maskW w8 (valueAt p w8 s) = valueAt p w8 s := by
  cases w8
  · rfl
  · exact maskW_zextByte _

/-- An operand is within its width. -/
theorem maskW_operandValue (o : Operand) (w8 : Bool) (s : State) :
    maskW w8 (operandValue o w8 s) = operandValue o w8 s := by
  cases o with
  | imm c =>
    cases w8
    · rfl
    · exact maskW_zextByte _
  | mem m => exact maskW_valueAt _ _ _

theorem maskW_accW (s : State) : maskW s.fM (accW s) = accW s := maskW_maskW _ _

/-- The Z of a value within its width. -/
theorem isZeroW_of_masked {w8 : Bool} {v : Word} (h : maskW w8 v = v) : isZeroW w8 v = (v == 0) := by
  rw [isZeroW, h]; rfl

/-- A value within its width is below the width's modulus. -/
theorem masked_lt {w8 : Bool} {v : Word} (h : maskW w8 v = v) : v.toNat < maskNat w8 + 1 := by
  rw [← h, maskW_toNat]
  exact Nat.mod_lt _ (Nat.succ_pos _)

/-- The implied access (R111). -/
theorem adrImp_eq_afterImplied {s : State} (h : s.hostTicks = []) : adrImp s = afterImplied s := adrImp_quiet h

/-- An accumulator form (R164). -/
theorem rmwAcc_quiet {s : State} (h : s.hostTicks = []) {f : Word → State → Word × State} (hf : FlagsOnly f) :
    rmwAcc f s =
      let r := f (accW s) (afterImplied s)
      { r.2 with a := mergeAcc s.fM s.a r.1 } := by
  simp only [rmwAcc, adrImp_eq_afterImplied h]
  have e1 : accW (afterImplied s) = accW s := rfl
  rw [e1]
  obtain ⟨n, z, c, e⟩ := hf (accW s) (afterImplied s)
  rw [e]
  rfl

end Sys2Proof.Machine
end

