-- ==== Sys2Proof/Laws/Dispatch.lean ====
section
/-! SUPPORT. What `exec` runs for an instruction with a data operand, by its mnemonic and operand alone. -/

namespace Sys2Proof.Machine

/-- The effect of a mnemonic on an operand in memory that it stores to or modifies (42_store_rmw.md), and of BIT. -/
def memMeaning (mn : Mnemonic) (o : MemOperand) (s : State) : State :=
  match mn with
  | .sta => storeData o s.a s.fM s
  | .stx => storeData o s.x s.fX s
  | .sty => storeData o s.y s.fX s
  | .stz => storeData o 0#16 s.fM s
  | .asl => rmwMem rmwAsl o s
  | .lsr => rmwMem rmwLsr o s
  | .rol => rmwMem rmwRol o s
  | .ror => rmwMem rmwRor o s
  | .inc => rmwMem rmwInc o s
  | .dec => rmwMem rmwDec o s
  | .tsb => rmwMem rmwTsb o s
  | .trb => rmwMem rmwTrb o s
  | .bit => aluBit o s
  | .pei => match o with
    | .dp d => pushIndirect d s
    | _ => s
  | _ => s

/-- The effect of a mnemonic on a data operand. -/
def dataMeaning (mn : Mnemonic) (o : Operand) (s : State) : State :=
  match mn with
  | .ora => aluLogic (· ||| ·) o s
  | .and => aluLogic (· &&& ·) o s
  | .eor => aluLogic (· ^^^ ·) o s
  | .adc => aluAdc o s
  | .sbc => aluSbc o s
  | .cmp => aluCmp o s
  | .cpx => aluCpx o s
  | .cpy => aluCpy o s
  | .lda => aluLda o s
  | .ldx => aluLdx o s
  | .ldy => aluLdy o s
  | mn => match o with
    | .imm c => aluBitImm c s
    | .mem m => memMeaning mn m s

/-- An instruction with a data operand does what its mnemonic does with that operand. -/
theorem exec_data {i : Instr} {o : Operand} (ho : operandOf i = some o) (s : State) :
    exec i s = .next (dataMeaning (mnemonicOf i) o s) := by
  cases i <;> first | (cases ho; done) | (cases ho; rfl)

/-- The immediate forms are the FM and FX ones. -/
theorem operandOf_imm {i : Instr} {c : Word} (ho : operandOf i = some (.imm c)) :
    formatOf i = .fm ∨ formatOf i = .fx := by
  cases i <;> first | exact Or.inl rfl | exact Or.inr rfl | (cases ho; done)

end Sys2Proof.Machine
end

