-- ==== Sys2Proof/Laws/Exceptions.lean ====
section
/-! SUPPORT. Pushing several bytes, taking an exception, returning from one, the reset sequence and the flag byte,
while the host only answers from its memory: what each shared operation can do. -/

namespace Sys2Proof.Machine

/-! ### Pushed bytes -/

/-- Memory after bytes are pushed from `sp` on, the first one first (R74). -/
def memPushed (e : Bool) (sp : Word) (pushed : List Byte) (m : List Host.Cell) : List Host.Cell :=
  match pushed with
  | [] => m
  | b :: rest => memPushed e (coerceSp e (sp - 1)) rest (memWrite m (bank0 sp).toNat b)

theorem memWf_memPushed (e : Bool) (sp : Word) (pushed : List Byte) {m : List Host.Cell} (hm : memWf m = true) :
    memWf (memPushed e sp pushed m) = true := by
  induction pushed generalizing sp m with
  | nil => exact hm
  | cons b rest ih => exact ih _ (memWf_memWrite_addr hm (bank0 sp) b)

/-- What the pushed memory reads as, byte by byte. -/
theorem memRead_memPushed (e : Bool) (sp : Word) (pushed : List Byte) {m : List Host.Cell} (hm : memWf m = true)
    (a : Nat) : memRead (memPushed e sp pushed m) a = bytesPushed e sp pushed (memRead m) a := by
  induction pushed generalizing sp m with
  | nil => rfl
  | cons b rest ih =>
    rw [memPushed, ih _ (memWf_memWrite_addr hm (bank0 sp) b), bytesPushed]
    exact congrArg (fun f => bytesPushed e (coerceSp e (sp - 1)) rest f a)
      (funext fun c => memRead_memWrite hm _ b c)

theorem pushWord_memPushed {s : State} (h : s.hostTicks = []) (v : Word) (p : Bool) :
    (pushWord v p s).mem = memPushed s.fE s.sp [hiByte v, loByte v] s.mem := by
  rw [pushWord_quiet h]; rfl

/-! ### Exceptions -/

theorem getFlags_with (s : State) (m : List Host.Cell) (sp pc : Word) (tr : List Event) :
    getFlags { s with mem := m, sp := sp, pc := pc, trace := tr } = getFlags s := rfl

/-- Taking an exception (R284, R322, R324). -/
theorem enterHandler_quiet {s : State} (h : s.hostTicks = []) (flags : Byte) :
    enterHandler flags s = { s with
      mem := memPushed s.fE s.sp (frameBytes s s.pc flags) s.mem
      sp := spPushed s.fE s.sp (frameBytes s s.pc flags).length
      fI := true
      fD := false
      k := 0x00#8
      trace := s.trace ++ pushEvents s.fE s.sp (frameBytes s s.pc flags) } := by
  cases hE : s.fE <;>
    simp only [enterHandler, frameBytes, hE, Bool.false_eq_true, if_true, if_false, pushWord, pollIf, pushByte_quiet, h,
      memPushed, spPushed, pushEvents, List.nil_append, List.cons_append, List.append_assoc, List.length_cons,
      List.length_nil]

/-- BRK and COP, from after the opcode fetch (R284). -/
theorem softInt_quiet {s : State} (h : s.hostTicks = []) (ev : VectorEvent) (sig : Byte) :
    softInt ev sig s =
      let frame := frameBytes s (s.pc + 1) (getFlags s)
      let m := memPushed s.fE s.sp frame s.mem
      let v := vectorOf ev s.fE
      { s with
        mem := m
        sp := spPushed s.fE s.sp frame.length
        fI := true
        fD := false
        k := 0x00#8
        pc := wordAt m (bank0 v) (bank0 (v + 1))
        intWanted := s.nmiWanted
        trace := s.trace ++ [.read (pcAddr s) sig] ++ pushEvents s.fE s.sp frame ++
          .read (bank0 v) (memRead m (bank0 v).toNat) :: .poll s.nmiWanted ::
            [.read (bank0 (v + 1)) (memRead m (bank0 (v + 1)).toNat)] } := by
  simp only [softInt]
  rw [fetchByte_quiet h]
  rw [enterHandler_quiet (by exact h)]
  rw [loadVector_quiet (by exact h)]
  simp only [frameBytes, getFlags, pollValue, pollEvents, if_true, Bool.not_true, Bool.and_false, Bool.or_false]
  simp only [List.append_assoc, List.cons_append, List.nil_append]

/-- A hardware interrupt's entry, from after the dummy read (R322, R323). -/
theorem doInterrupt_quiet {s : State} (h : s.hostTicks = []) :
    doInterrupt s =
      let frame := frameBytes s s.pc (interruptFlags s)
      let m := memPushed s.fE s.sp frame s.mem
      let v := vectorOf (if s.nmiWanted then .nmi else .irq) s.fE
      { s with
        mem := m
        sp := spPushed s.fE s.sp frame.length
        fI := true
        fD := false
        k := 0x00#8
        pc := wordAt m (bank0 v) (bank0 (v + 1))
        intWanted := false
        nmiWanted := false
        trace := s.trace ++ [.idle false] ++ pushEvents s.fE s.sp frame ++
          .read (bank0 v) (memRead m (bank0 v).toNat) ::
            [.read (bank0 (v + 1)) (memRead m (bank0 (v + 1)).toNat)] } := by
  simp only [doInterrupt]
  rw [idle_quiet h]
  rw [enterHandler_quiet (by exact h)]
  rw [loadVector_quiet (by exact h)]
  simp only [frameBytes, interruptFlags, getFlags, pollEvents, Bool.false_eq_true, if_false, Bool.and_not_self,
    List.append_assoc, List.cons_append, List.nil_append]

/-! ### The flag byte -/

theorem getLsbD_getFlags (s : State) :
    (getFlags s).getLsbD 7 = s.fN ∧ (getFlags s).getLsbD 6 = s.fV ∧ (getFlags s).getLsbD 5 = s.fM ∧
      (getFlags s).getLsbD 4 = s.fX ∧ (getFlags s).getLsbD 3 = s.fD ∧ (getFlags s).getLsbD 2 = s.fI ∧
      (getFlags s).getLsbD 1 = s.fZ ∧ (getFlags s).getLsbD 0 = s.fC := by
  unfold getFlags
  cases s.fN <;> cases s.fV <;> cases s.fM <;> cases s.fX <;> cases s.fD <;> cases s.fI <;> cases s.fZ <;>
    cases s.fC <;> decide

/-- SetFlags in a state whose SP keeps to the page its mode asks for leaves SP as it is (R41). -/
theorem setFlags_sp_of_page {s : State} (h : s.fE = true → hiByte s.sp = 0x01#8) (b : Byte) : (setFlags b s).sp = s.sp := by
  simp only [setFlags]
  split
  · next hE => exact pageOne_of_hiByte (h hE)
  · rfl

theorem hiByte_coerceSp (v : Word) : hiByte (coerceSp true v) = 0x01#8 := hiByte_pageOne v

/-- SP after any number of pushes stays in page $01 when it began there (R37). -/
theorem hiByte_spPushed {sp : Word} (h : hiByte sp = 0x01#8) (n : Nat) : hiByte (spPushed true sp n) = 0x01#8 := by
  induction n generalizing sp with
  | zero => exact h
  | succ n ih => exact ih (hiByte_coerceSp _)

/-- SP after any number of pulls stays in page $01 when it began there (R37). -/
theorem hiByte_spPulled {sp : Word} (h : hiByte sp = 0x01#8) (n : Nat) : hiByte (spPulled true sp n) = 0x01#8 := by
  induction n generalizing sp with
  | zero => exact h
  | succ n ih => exact ih (hiByte_coerceSp _)

/-- One pull undoes one push (R74, R75), SP being in its page. -/
theorem coerceSp_up_down {e : Bool} {sp : Word} (h : e = true → hiByte sp = 0x01#8) :
    coerceSp e (coerceSp e (sp - 1) + 1) = sp := by
  cases e
  · simp only [coerceSp, Bool.false_eq_true, if_false, BitVec.sub_add_cancel]
  · have hp := h rfl
    simp only [coerceSp, if_true]
    apply BitVec.eq_of_toNat_eq
    have e1 := congrArg BitVec.toNat hp
    rw [hiByte_toNat, BitVec.toNat_ofNat] at e1
    have := sp.isLt
    have o1 : (1 : Word).toNat = 1 := rfl
    rw [pageOne_toNat, BitVec.toNat_add, pageOne_toNat, BitVec.toNat_sub, o1]
    omega

end Sys2Proof.Machine
end

