-- ==== Sys2Proof/Laws/Frames.lean ====
section
/-! SUPPORT. What each shared operation leaves unchanged, whatever the host does inside its bus cycles: the state
after it, with only what the operation and the host can touch left open. -/

namespace Sys2Proof.Machine

/-- `t` is `s` but for what the host and the record of events can change in bus cycles, the last poll and PC. -/
def OnlyHost (s t : State) (pc : Word) : Prop :=
  ∃ nmi irq int ticks tr, t = { s with
    pc := pc
    nmiWanted := nmi
    irqWanted := irq
    intWanted := int
    hostTicks := ticks
    trace := tr }

theorem OnlyHost.trans {s t u : State} {p q : Word} (h : OnlyHost s t p) (g : OnlyHost t u q) : OnlyHost s u q := by
  obtain ⟨_, _, _, _, _, rfl⟩ := h
  obtain ⟨_, _, _, _, _, rfl⟩ := g
  exact ⟨_, _, _, _, _, rfl⟩

theorem OnlyHost.refl (s : State) : OnlyHost s s s.pc := ⟨_, _, _, _, _, rfl⟩

theorem cycle_onlyHost (e : Event) (s : State) : OnlyHost s (cycle e s) s.pc := ⟨_, _, _, _, _, rfl⟩

theorem idle_onlyHost (s : State) : OnlyHost s (idle s) s.pc := ⟨_, _, _, _, _, rfl⟩

theorem poll_onlyHost (s : State) : OnlyHost s (poll s) s.pc := ⟨_, _, _, _, _, rfl⟩

theorem pollIf_onlyHost (p : Bool) (s : State) : OnlyHost s (pollIf p s) s.pc := by
  cases p
  · exact OnlyHost.refl s
  · exact poll_onlyHost s

theorem busRead_onlyHost (a : Addr) (s : State) : OnlyHost s (busRead a s).2 s.pc := ⟨_, _, _, _, _, rfl⟩

theorem fetchByte_onlyHost (b : Byte) (s : State) : OnlyHost s (fetchByte b s) (s.pc + 1) := ⟨_, _, _, _, _, rfl⟩

theorem OnlyHost.pc_eq {s t : State} {p : Word} (h : OnlyHost s t p) : t.pc = p := by
  obtain ⟨_, _, _, _, _, rfl⟩ := h
  rfl

theorem fetchWord_onlyHost (w : Word) (p : Bool) (s : State) : OnlyHost s (fetchWord w p s) (s.pc + 2) := by
  have h := (fetchByte_onlyHost (loByte w) s).trans (pollIf_onlyHost p _)
  have g := h.trans (fetchByte_onlyHost (hiByte w) _)
  rw [h.pc_eq, fetchByte_pc, add_one_one] at g
  exact g

theorem readWord_onlyHost (lo hi : Addr) (p : Bool) (s : State) : OnlyHost s (readWord lo hi p s).2 s.pc := by
  have h := (busRead_onlyHost lo s).trans (pollIf_onlyHost p _)
  have g := h.trans (busRead_onlyHost hi _)
  rw [h.pc_eq] at g
  exact g

theorem readOperand_onlyHost (q : AddrPair) (w8 : Bool) (s : State) : OnlyHost s (readOperand q w8 s).2 s.pc := by
  cases w8
  · exact readWord_onlyHost q.lo q.hi true s
  · exact (poll_onlyHost s).trans (busRead_onlyHost q.lo (poll s))

theorem adrImp_onlyHost (s : State) : OnlyHost s (adrImp s) s.pc := by
  unfold adrImp
  dsimp only
  split
  · exact (poll_onlyHost s).trans (busRead_onlyHost _ (poll s))
  · exact (poll_onlyHost s).trans (idle_onlyHost (poll s))

theorem dpIdle_onlyHost (s : State) : OnlyHost s (dpIdle s) s.pc := by
  unfold dpIdle
  split
  · exact OnlyHost.refl s
  · exact idle_onlyHost s

theorem penalty_onlyHost (base index : Word) (write : Bool) (s : State) :
    OnlyHost s (penalty base index write s) s.pc := by
  unfold penalty
  split
  · exact idle_onlyHost s
  · exact OnlyHost.refl s

/-- What the host may have done to the latches in between does not matter to a push: SP and one byte of memory. -/
theorem pushByte_onlyHost (b : Byte) (s : State) :
    OnlyHost { s with mem := memWrite s.mem (bank0 s.sp).toNat b, sp := coerceSp s.fE (s.sp - 1) } (pushByte b s) s.pc :=
  ⟨_, _, _, _, _, rfl⟩

theorem pullByte_onlyHost (s : State) :
    OnlyHost { s with sp := coerceSp s.fE (s.sp + 1) } (pullByte s).2 s.pc := ⟨_, _, _, _, _, rfl⟩

theorem pushWord_onlyHost (v : Word) (p : Bool) (s : State) :
    OnlyHost { s with mem := memPushed s.fE s.sp [hiByte v, loByte v] s.mem, sp := spPushed s.fE s.sp 2 }
      (pushWord v p s) s.pc := by
  cases p <;> exact ⟨_, _, _, _, _, rfl⟩

theorem pullWord_onlyHost (p : Bool) (s : State) :
    OnlyHost { s with sp := spPulled s.fE s.sp 2 } (pullWord p s).2 s.pc := by
  cases p <;> exact ⟨_, _, _, _, _, rfl⟩

theorem busWrite_onlyHost (a : Addr) (b : Byte) (s : State) :
    OnlyHost { s with mem := memWrite s.mem a.toNat b } (busWrite a b s) s.pc := ⟨_, _, _, _, _, rfl⟩

theorem writeWord_onlyHost (lo hi : Addr) (v : Word) (rev p : Bool) (s : State) :
    OnlyHost { s with
        mem := if rev then memWrite (memWrite s.mem hi.toNat (hiByte v)) lo.toNat (loByte v)
          else memWrite (memWrite s.mem lo.toNat (loByte v)) hi.toNat (hiByte v) }
      (writeWord lo hi v rev p s) s.pc := by
  cases rev <;> cases p <;> exact ⟨_, _, _, _, _, rfl⟩

theorem writeOperand_onlyHost (q : AddrPair) (v : Word) (w8 : Bool) (s : State) :
    OnlyHost { s with
        mem := if w8 then memWrite s.mem q.lo.toNat (loByte v)
          else memWrite (memWrite s.mem q.lo.toNat (loByte v)) q.hi.toNat (hiByte v) }
      (writeOperand q v w8 s) s.pc := by
  cases w8 <;> exact ⟨_, _, _, _, _, rfl⟩

theorem loadVector_onlyHost (v : Word) (p : Bool) (s : State) :
    OnlyHost s (loadVector v p s) (readWord (bank0 v) (bank0 (v + 1)) p s).1 := by
  obtain ⟨_, _, _, _, _, e⟩ := readWord_onlyHost (bank0 v) (bank0 (v + 1)) p s
  simp only [loadVector]
  rw [e]
  exact ⟨_, _, _, _, _, rfl⟩

/-- Taking an exception: the frame in memory, SP, I, D and K (R324), whatever the host does meanwhile. -/
theorem enterHandler_onlyHost (flags : Byte) (s : State) :
    OnlyHost { s with
        mem := memPushed s.fE s.sp (frameBytes s s.pc flags) s.mem
        sp := spPushed s.fE s.sp (frameBytes s s.pc flags).length
        fI := true
        fD := false
        k := 0x00#8 }
      (enterHandler flags s) s.pc := by
  unfold enterHandler frameBytes
  cases hE : s.fE <;>
    simp only [Bool.false_eq_true, if_true, if_false, pushWord, pollIf, pushByte, busWrite, spDown_eq, cycle, hE,
      memPushed, spPushed, List.nil_append, List.cons_append, List.length_cons, List.length_nil] <;>
    exact ⟨_, _, _, _, _, rfl⟩

end Sys2Proof.Machine
end

