-- ==== Sys2Proof/Laws/HostTicks.lean ====
section
/-! SUPPORT. What each shared operation of an interrupt's entry does whatever the host does inside its bus
transactions (R6, R31, R32): the acts of the first `n` transactions from a state are gathered in `afterTicks n`. -/

namespace Sys2Proof.Machine

/-- `s` with the request latches and the host's coming acts as the first `n` bus transactions from `s₀` leave them. -/
def afterTicks (n : Nat) (s₀ s : State) : State :=
  { s with nmiWanted := nmiAfter s₀ n, irqWanted := irqAfter s₀ n, hostTicks := s₀.hostTicks.drop n }

theorem afterTicks_zero (s₀ : State) : afterTicks 0 s₀ s₀ = s₀ := by
  simp [afterTicks, nmiAfter, irqAfter]

theorem tickAt_drop (s₀ s : State) (n k : Nat) (h : s.hostTicks = s₀.hostTicks.drop n) :
    tickAt s k = tickAt s₀ (n + k) := by
  simp [tickAt, h, List.getD_eq_getElem?_getD]

/-- One more transaction adds its own `Nmi()`. -/
theorem nmiAfter_succ (s : State) (n : Nat) : nmiAfter s (n + 1) = (nmiAfter s n || (tickAt s n).nmi) := by
  simp only [nmiAfter, tickAt, List.take_add_one, List.any_append, List.getD_eq_getElem?_getD]
  cases s.hostTicks[n]? <;> simp [HostTick.quiet, Bool.or_assoc]

/-- One more transaction's `SetIrq`, if it has one, is the last. -/
theorem irqAfter_succ (s : State) (n : Nat) : irqAfter s (n + 1) = (tickAt s n).irq.getD (irqAfter s n) := by
  simp only [irqAfter, tickAt, List.take_add_one, List.filterMap_append, List.getD_eq_getElem?_getD]
  cases s.hostTicks[n]? with
  | none => simp [HostTick.quiet]
  | some h => cases hi : h.irq <;> simp [hi]

/-- One bus cycle after `n` others (R10). -/
theorem cycle_afterTicks (n : Nat) (s₀ s : State) (e : Event) :
    cycle e (afterTicks n s₀ s) = afterTicks (n + 1) s₀ { s with trace := s.trace ++ [e] } := by
  have ht : tickAt (afterTicks n s₀ s) 0 = tickAt s₀ n := tickAt_drop s₀ _ n 0 rfl
  simp only [cycle, ht]
  simp only [afterTicks, nmiAfter_succ, irqAfter_succ, List.tail_drop]

theorem idle_afterTicks (n : Nat) (s₀ s : State) :
    idle (afterTicks n s₀ s) = afterTicks (n + 1) s₀ { s with trace := s.trace ++ [.idle false] } :=
  cycle_afterTicks n s₀ s _

/-- A read after `n` other transactions: what the host answers it with, and the state after it (R11). -/
theorem busRead_afterTicks (n : Nat) (s₀ s : State) (r : Addr) :
    busRead r (afterTicks n s₀ s) =
      let v := answered s₀ n (memRead s.mem r.toNat)
      (v, afterTicks (n + 1) s₀ { s with trace := s.trace ++ [.read r v] }) := by
  have ht : answerAt (afterTicks n s₀ s) 0 r = answered s₀ n (memRead s.mem r.toNat) := by
    rw [answerAt, tickAt_drop s₀ (afterTicks n s₀ s) n 0 rfl]; rfl
  simp only [busRead, ht, cycle_afterTicks]

theorem pushByte_afterTicks (n : Nat) (s₀ s : State) (b : Byte) :
    pushByte b (afterTicks n s₀ s) = afterTicks (n + 1) s₀ { s with
      mem := memWrite s.mem (bank0 s.sp).toNat b
      sp := coerceSp s.fE (s.sp - 1)
      trace := s.trace ++ [.write (bank0 s.sp) b] } := by
  have h := cycle_afterTicks n s₀ { s with mem := memWrite s.mem (bank0 s.sp).toNat b } (.write (bank0 s.sp) b)
  simp only [pushByte, busWrite]
  exact (congrArg (fun t : State => { t with sp := spDown t }) h).trans rfl

/-- The word two reads of a vector give, the first one after `n` other transactions (R71, R79). -/
theorem loadVector_afterTicks (n : Nat) (s₀ s : State) (v : Word) :
    loadVector v false (afterTicks n s₀ s) =
      let lo := answered s₀ n (memRead s.mem (bank0 v).toNat)
      let hi := answered s₀ (n + 1) (memRead s.mem (bank0 (v + 1)).toNat)
      afterTicks (n + 2) s₀ { s with
        pc := mkWord hi lo
        trace := s.trace ++ [.read (bank0 v) lo, .read (bank0 (v + 1)) hi] } := by
  simp only [loadVector, readWord, pollIf, Bool.false_eq_true, if_false, busRead_afterTicks, List.append_assoc,
    List.cons_append, List.nil_append]
  rfl

/-- Taking an exception (R284, R322, R324). -/
theorem enterHandler_afterTicks (n : Nat) (s₀ s : State) (flags : Byte) :
    enterHandler flags (afterTicks n s₀ s) =
      let frame := frameBytes s s.pc flags
      afterTicks (n + frame.length) s₀ { s with
        mem := memPushed s.fE s.sp frame s.mem
        sp := spPushed s.fE s.sp frame.length
        fI := true
        fD := false
        k := 0x00#8
        trace := s.trace ++ pushEvents s.fE s.sp frame } := by
  have hk : (afterTicks n s₀ s).k = s.k := rfl
  have hp : ∀ n s', (afterTicks n s₀ s').pc = s'.pc := fun _ _ => rfl
  have he : (afterTicks n s₀ s).fE = s.fE := rfl
  cases hE : s.fE <;>
    simp only [enterHandler, frameBytes, hE, he, hk, hp, Bool.false_eq_true, if_true, if_false, pushWord, pollIf,
      pushByte_afterTicks, memPushed, spPushed, pushEvents, List.nil_append, List.cons_append, List.append_assoc,
      List.length_cons, List.length_nil] <;>
    rfl

/-- The end of a hardware interrupt's entry, once the frame is pushed (R322): the choice of the vector and its read. -/
theorem doInterrupt_vector_afterTicks (n : Nat) (s₀ s : State) :
    (let t := { afterTicks n s₀ s with intWanted := false }
      let u := loadVector (vectorOf (if t.nmiWanted then .nmi else .irq) t.fE) false t
      { u with nmiWanted := u.nmiWanted && !t.nmiWanted }) =
      let isNmi := nmiAfter s₀ n
      let v := vectorOf (if isNmi then .nmi else .irq) s.fE
      let lo := answered s₀ n (memRead s.mem (bank0 v).toNat)
      let hi := answered s₀ (n + 1) (memRead s.mem (bank0 (v + 1)).toNat)
      { afterTicks (n + 2) s₀ s with
        pc := mkWord hi lo
        intWanted := false
        nmiWanted := nmiAfter s₀ (n + 2) && !isNmi
        trace := s.trace ++ [.read (bank0 v) lo, .read (bank0 (v + 1)) hi] } :=
  congrArg (fun t : State => { t with nmiWanted := t.nmiWanted && !nmiAfter s₀ n })
    (loadVector_afterTicks n s₀ { s with intWanted := false } _)

/-- A hardware interrupt's entry, from after the dummy read, whatever the host does inside it (R322, R323): the vector
is NMI's if NMI is wanted once the pushes are done. -/
theorem doInterrupt_afterTicks (n : Nat) (s₀ s : State) :
    doInterrupt (afterTicks n s₀ s) =
      let frame := frameBytes s s.pc (interruptFlags s)
      let m := memPushed s.fE s.sp frame s.mem
      let j := n + 1 + frame.length
      let isNmi := nmiAfter s₀ j
      let v := vectorOf (if isNmi then .nmi else .irq) s.fE
      let lo := answered s₀ j (memRead m (bank0 v).toNat)
      let hi := answered s₀ (j + 1) (memRead m (bank0 (v + 1)).toNat)
      { afterTicks (j + 2) s₀ s with
        mem := m
        sp := spPushed s.fE s.sp frame.length
        fI := true
        fD := false
        k := 0x00#8
        pc := mkWord hi lo
        intWanted := false
        nmiWanted := nmiAfter s₀ (j + 2) && !isNmi
        trace := s.trace ++ .idle false :: pushEvents s.fE s.sp frame ++
          [.read (bank0 v) lo, .read (bank0 (v + 1)) hi] } := by
  have entered := enterHandler_afterTicks (n + 1) s₀ { s with trace := s.trace ++ [.idle false] } (interruptFlags s)
  have vector := doInterrupt_vector_afterTicks (n + 1 + (frameBytes s s.pc (interruptFlags s)).length) s₀
  rw [doInterrupt, idle_afterTicks]
  refine (congrArg (fun e : State =>
    let t := { e with intWanted := false }
    let u := loadVector (vectorOf (if t.nmiWanted then .nmi else .irq) t.fE) false t
    { u with nmiWanted := u.nmiWanted && !t.nmiWanted }) entered).trans ((vector _).trans ?_)
  simp only [afterTicks, List.append_assoc, List.cons_append, List.nil_append]
  rfl

end Sys2Proof.Machine
end

