-- ==== Sys2Proof/Laws/PerInstr.lean ====
section
/-! SUPPORT. For each instruction: its encoding is as long as its format says (30_encoding.md R91, R93). -/

namespace Sys2Proof.Laws

/-- The bytes of the instruction are as many as its format and its flag give (R91, R93). -/
def EncodeLength.Statement (i : Instr) : Prop :=
  ∀ m x : Bool, (encode m x i).length = Machine.instrLength m x i

theorem EncodeLength.brk (sig : Byte) : EncodeLength.Statement (.brk sig) := fun _ _ => rfl
theorem EncodeLength.oraIdx (d : Byte) : EncodeLength.Statement (.oraIdx d) := fun _ _ => rfl
theorem EncodeLength.cop (sig : Byte) : EncodeLength.Statement (.cop sig) := fun _ _ => rfl
theorem EncodeLength.oraSr (d : Byte) : EncodeLength.Statement (.oraSr d) := fun _ _ => rfl
theorem EncodeLength.tsbDp (d : Byte) : EncodeLength.Statement (.tsbDp d) := fun _ _ => rfl
theorem EncodeLength.oraDp (d : Byte) : EncodeLength.Statement (.oraDp d) := fun _ _ => rfl
theorem EncodeLength.aslDp (d : Byte) : EncodeLength.Statement (.aslDp d) := fun _ _ => rfl
theorem EncodeLength.oraIdl (d : Byte) : EncodeLength.Statement (.oraIdl d) := fun _ _ => rfl
theorem EncodeLength.php : EncodeLength.Statement .php := fun _ _ => rfl
theorem EncodeLength.oraImm (c : Word) : EncodeLength.Statement (.oraImm c) := fun m x => by cases m <;> cases x <;> rfl
theorem EncodeLength.aslAcc : EncodeLength.Statement .aslAcc := fun _ _ => rfl
theorem EncodeLength.phd : EncodeLength.Statement .phd := fun _ _ => rfl
theorem EncodeLength.tsbAbs (a : Word) : EncodeLength.Statement (.tsbAbs a) := fun _ _ => rfl
theorem EncodeLength.oraAbs (a : Word) : EncodeLength.Statement (.oraAbs a) := fun _ _ => rfl
theorem EncodeLength.aslAbs (a : Word) : EncodeLength.Statement (.aslAbs a) := fun _ _ => rfl
theorem EncodeLength.oraAbl (a : Addr) : EncodeLength.Statement (.oraAbl a) := fun _ _ => rfl
theorem EncodeLength.bpl (disp : Byte) : EncodeLength.Statement (.bpl disp) := fun _ _ => rfl
theorem EncodeLength.oraIdy (d : Byte) : EncodeLength.Statement (.oraIdy d) := fun _ _ => rfl
theorem EncodeLength.oraIdp (d : Byte) : EncodeLength.Statement (.oraIdp d) := fun _ _ => rfl
theorem EncodeLength.oraIsy (d : Byte) : EncodeLength.Statement (.oraIsy d) := fun _ _ => rfl
theorem EncodeLength.trbDp (d : Byte) : EncodeLength.Statement (.trbDp d) := fun _ _ => rfl
theorem EncodeLength.oraDpx (d : Byte) : EncodeLength.Statement (.oraDpx d) := fun _ _ => rfl
theorem EncodeLength.aslDpx (d : Byte) : EncodeLength.Statement (.aslDpx d) := fun _ _ => rfl
theorem EncodeLength.oraIly (d : Byte) : EncodeLength.Statement (.oraIly d) := fun _ _ => rfl
theorem EncodeLength.clc : EncodeLength.Statement .clc := fun _ _ => rfl
theorem EncodeLength.oraAby (a : Word) : EncodeLength.Statement (.oraAby a) := fun _ _ => rfl
theorem EncodeLength.incAcc : EncodeLength.Statement .incAcc := fun _ _ => rfl
theorem EncodeLength.tcs : EncodeLength.Statement .tcs := fun _ _ => rfl
theorem EncodeLength.trbAbs (a : Word) : EncodeLength.Statement (.trbAbs a) := fun _ _ => rfl
theorem EncodeLength.oraAbx (a : Word) : EncodeLength.Statement (.oraAbx a) := fun _ _ => rfl
theorem EncodeLength.aslAbx (a : Word) : EncodeLength.Statement (.aslAbx a) := fun _ _ => rfl
theorem EncodeLength.oraAlx (a : Addr) : EncodeLength.Statement (.oraAlx a) := fun _ _ => rfl
theorem EncodeLength.jsrAbs (a : Word) : EncodeLength.Statement (.jsrAbs a) := fun _ _ => rfl
theorem EncodeLength.andIdx (d : Byte) : EncodeLength.Statement (.andIdx d) := fun _ _ => rfl
theorem EncodeLength.jsl (a : Addr) : EncodeLength.Statement (.jsl a) := fun _ _ => rfl
theorem EncodeLength.andSr (d : Byte) : EncodeLength.Statement (.andSr d) := fun _ _ => rfl
theorem EncodeLength.bitDp (d : Byte) : EncodeLength.Statement (.bitDp d) := fun _ _ => rfl
theorem EncodeLength.andDp (d : Byte) : EncodeLength.Statement (.andDp d) := fun _ _ => rfl
theorem EncodeLength.rolDp (d : Byte) : EncodeLength.Statement (.rolDp d) := fun _ _ => rfl
theorem EncodeLength.andIdl (d : Byte) : EncodeLength.Statement (.andIdl d) := fun _ _ => rfl
theorem EncodeLength.plp : EncodeLength.Statement .plp := fun _ _ => rfl
theorem EncodeLength.andImm (c : Word) : EncodeLength.Statement (.andImm c) := fun m x => by cases m <;> cases x <;> rfl
theorem EncodeLength.rolAcc : EncodeLength.Statement .rolAcc := fun _ _ => rfl
theorem EncodeLength.pld : EncodeLength.Statement .pld := fun _ _ => rfl
theorem EncodeLength.bitAbs (a : Word) : EncodeLength.Statement (.bitAbs a) := fun _ _ => rfl
theorem EncodeLength.andAbs (a : Word) : EncodeLength.Statement (.andAbs a) := fun _ _ => rfl
theorem EncodeLength.rolAbs (a : Word) : EncodeLength.Statement (.rolAbs a) := fun _ _ => rfl
theorem EncodeLength.andAbl (a : Addr) : EncodeLength.Statement (.andAbl a) := fun _ _ => rfl
theorem EncodeLength.bmi (disp : Byte) : EncodeLength.Statement (.bmi disp) := fun _ _ => rfl
theorem EncodeLength.andIdy (d : Byte) : EncodeLength.Statement (.andIdy d) := fun _ _ => rfl
theorem EncodeLength.andIdp (d : Byte) : EncodeLength.Statement (.andIdp d) := fun _ _ => rfl
theorem EncodeLength.andIsy (d : Byte) : EncodeLength.Statement (.andIsy d) := fun _ _ => rfl
theorem EncodeLength.bitDpx (d : Byte) : EncodeLength.Statement (.bitDpx d) := fun _ _ => rfl
theorem EncodeLength.andDpx (d : Byte) : EncodeLength.Statement (.andDpx d) := fun _ _ => rfl
theorem EncodeLength.rolDpx (d : Byte) : EncodeLength.Statement (.rolDpx d) := fun _ _ => rfl
theorem EncodeLength.andIly (d : Byte) : EncodeLength.Statement (.andIly d) := fun _ _ => rfl
theorem EncodeLength.sec : EncodeLength.Statement .sec := fun _ _ => rfl
theorem EncodeLength.andAby (a : Word) : EncodeLength.Statement (.andAby a) := fun _ _ => rfl
theorem EncodeLength.decAcc : EncodeLength.Statement .decAcc := fun _ _ => rfl
theorem EncodeLength.tsc : EncodeLength.Statement .tsc := fun _ _ => rfl
theorem EncodeLength.bitAbx (a : Word) : EncodeLength.Statement (.bitAbx a) := fun _ _ => rfl
theorem EncodeLength.andAbx (a : Word) : EncodeLength.Statement (.andAbx a) := fun _ _ => rfl
theorem EncodeLength.rolAbx (a : Word) : EncodeLength.Statement (.rolAbx a) := fun _ _ => rfl
theorem EncodeLength.andAlx (a : Addr) : EncodeLength.Statement (.andAlx a) := fun _ _ => rfl
theorem EncodeLength.rti : EncodeLength.Statement .rti := fun _ _ => rfl
theorem EncodeLength.eorIdx (d : Byte) : EncodeLength.Statement (.eorIdx d) := fun _ _ => rfl
theorem EncodeLength.wdm (sig : Byte) : EncodeLength.Statement (.wdm sig) := fun _ _ => rfl
theorem EncodeLength.eorSr (d : Byte) : EncodeLength.Statement (.eorSr d) := fun _ _ => rfl
theorem EncodeLength.mvp (dst : Byte) (src : Byte) : EncodeLength.Statement (.mvp dst src) := fun _ _ => rfl
theorem EncodeLength.eorDp (d : Byte) : EncodeLength.Statement (.eorDp d) := fun _ _ => rfl
theorem EncodeLength.lsrDp (d : Byte) : EncodeLength.Statement (.lsrDp d) := fun _ _ => rfl
theorem EncodeLength.eorIdl (d : Byte) : EncodeLength.Statement (.eorIdl d) := fun _ _ => rfl
theorem EncodeLength.pha : EncodeLength.Statement .pha := fun _ _ => rfl
theorem EncodeLength.eorImm (c : Word) : EncodeLength.Statement (.eorImm c) := fun m x => by cases m <;> cases x <;> rfl
theorem EncodeLength.lsrAcc : EncodeLength.Statement .lsrAcc := fun _ _ => rfl
theorem EncodeLength.phk : EncodeLength.Statement .phk := fun _ _ => rfl
theorem EncodeLength.jmpAbs (a : Word) : EncodeLength.Statement (.jmpAbs a) := fun _ _ => rfl
theorem EncodeLength.eorAbs (a : Word) : EncodeLength.Statement (.eorAbs a) := fun _ _ => rfl
theorem EncodeLength.lsrAbs (a : Word) : EncodeLength.Statement (.lsrAbs a) := fun _ _ => rfl
theorem EncodeLength.eorAbl (a : Addr) : EncodeLength.Statement (.eorAbl a) := fun _ _ => rfl
theorem EncodeLength.bvc (disp : Byte) : EncodeLength.Statement (.bvc disp) := fun _ _ => rfl
theorem EncodeLength.eorIdy (d : Byte) : EncodeLength.Statement (.eorIdy d) := fun _ _ => rfl
theorem EncodeLength.eorIdp (d : Byte) : EncodeLength.Statement (.eorIdp d) := fun _ _ => rfl
theorem EncodeLength.eorIsy (d : Byte) : EncodeLength.Statement (.eorIsy d) := fun _ _ => rfl
theorem EncodeLength.mvn (dst : Byte) (src : Byte) : EncodeLength.Statement (.mvn dst src) := fun _ _ => rfl
theorem EncodeLength.eorDpx (d : Byte) : EncodeLength.Statement (.eorDpx d) := fun _ _ => rfl
theorem EncodeLength.lsrDpx (d : Byte) : EncodeLength.Statement (.lsrDpx d) := fun _ _ => rfl
theorem EncodeLength.eorIly (d : Byte) : EncodeLength.Statement (.eorIly d) := fun _ _ => rfl
theorem EncodeLength.cli : EncodeLength.Statement .cli := fun _ _ => rfl
theorem EncodeLength.eorAby (a : Word) : EncodeLength.Statement (.eorAby a) := fun _ _ => rfl
theorem EncodeLength.phy : EncodeLength.Statement .phy := fun _ _ => rfl
theorem EncodeLength.tcd : EncodeLength.Statement .tcd := fun _ _ => rfl
theorem EncodeLength.jmlLong (a : Addr) : EncodeLength.Statement (.jmlLong a) := fun _ _ => rfl
theorem EncodeLength.eorAbx (a : Word) : EncodeLength.Statement (.eorAbx a) := fun _ _ => rfl
theorem EncodeLength.lsrAbx (a : Word) : EncodeLength.Statement (.lsrAbx a) := fun _ _ => rfl
theorem EncodeLength.eorAlx (a : Addr) : EncodeLength.Statement (.eorAlx a) := fun _ _ => rfl
theorem EncodeLength.rts : EncodeLength.Statement .rts := fun _ _ => rfl
theorem EncodeLength.adcIdx (d : Byte) : EncodeLength.Statement (.adcIdx d) := fun _ _ => rfl
theorem EncodeLength.per (disp : Word) : EncodeLength.Statement (.per disp) := fun _ _ => rfl
theorem EncodeLength.adcSr (d : Byte) : EncodeLength.Statement (.adcSr d) := fun _ _ => rfl
theorem EncodeLength.stzDp (d : Byte) : EncodeLength.Statement (.stzDp d) := fun _ _ => rfl
theorem EncodeLength.adcDp (d : Byte) : EncodeLength.Statement (.adcDp d) := fun _ _ => rfl
theorem EncodeLength.rorDp (d : Byte) : EncodeLength.Statement (.rorDp d) := fun _ _ => rfl
theorem EncodeLength.adcIdl (d : Byte) : EncodeLength.Statement (.adcIdl d) := fun _ _ => rfl
theorem EncodeLength.pla : EncodeLength.Statement .pla := fun _ _ => rfl
theorem EncodeLength.adcImm (c : Word) : EncodeLength.Statement (.adcImm c) := fun m x => by cases m <;> cases x <;> rfl
theorem EncodeLength.rorAcc : EncodeLength.Statement .rorAcc := fun _ _ => rfl
theorem EncodeLength.rtl : EncodeLength.Statement .rtl := fun _ _ => rfl
theorem EncodeLength.jmpInd (a : Word) : EncodeLength.Statement (.jmpInd a) := fun _ _ => rfl
theorem EncodeLength.adcAbs (a : Word) : EncodeLength.Statement (.adcAbs a) := fun _ _ => rfl
theorem EncodeLength.rorAbs (a : Word) : EncodeLength.Statement (.rorAbs a) := fun _ _ => rfl
theorem EncodeLength.adcAbl (a : Addr) : EncodeLength.Statement (.adcAbl a) := fun _ _ => rfl
theorem EncodeLength.bvs (disp : Byte) : EncodeLength.Statement (.bvs disp) := fun _ _ => rfl
theorem EncodeLength.adcIdy (d : Byte) : EncodeLength.Statement (.adcIdy d) := fun _ _ => rfl
theorem EncodeLength.adcIdp (d : Byte) : EncodeLength.Statement (.adcIdp d) := fun _ _ => rfl
theorem EncodeLength.adcIsy (d : Byte) : EncodeLength.Statement (.adcIsy d) := fun _ _ => rfl
theorem EncodeLength.stzDpx (d : Byte) : EncodeLength.Statement (.stzDpx d) := fun _ _ => rfl
theorem EncodeLength.adcDpx (d : Byte) : EncodeLength.Statement (.adcDpx d) := fun _ _ => rfl
theorem EncodeLength.rorDpx (d : Byte) : EncodeLength.Statement (.rorDpx d) := fun _ _ => rfl
theorem EncodeLength.adcIly (d : Byte) : EncodeLength.Statement (.adcIly d) := fun _ _ => rfl
theorem EncodeLength.sei : EncodeLength.Statement .sei := fun _ _ => rfl
theorem EncodeLength.adcAby (a : Word) : EncodeLength.Statement (.adcAby a) := fun _ _ => rfl
theorem EncodeLength.ply : EncodeLength.Statement .ply := fun _ _ => rfl
theorem EncodeLength.tdc : EncodeLength.Statement .tdc := fun _ _ => rfl
theorem EncodeLength.jmpIax (a : Word) : EncodeLength.Statement (.jmpIax a) := fun _ _ => rfl
theorem EncodeLength.adcAbx (a : Word) : EncodeLength.Statement (.adcAbx a) := fun _ _ => rfl
theorem EncodeLength.rorAbx (a : Word) : EncodeLength.Statement (.rorAbx a) := fun _ _ => rfl
theorem EncodeLength.adcAlx (a : Addr) : EncodeLength.Statement (.adcAlx a) := fun _ _ => rfl
theorem EncodeLength.bra (disp : Byte) : EncodeLength.Statement (.bra disp) := fun _ _ => rfl
theorem EncodeLength.staIdx (d : Byte) : EncodeLength.Statement (.staIdx d) := fun _ _ => rfl
theorem EncodeLength.brl (disp : Word) : EncodeLength.Statement (.brl disp) := fun _ _ => rfl
theorem EncodeLength.staSr (d : Byte) : EncodeLength.Statement (.staSr d) := fun _ _ => rfl
theorem EncodeLength.styDp (d : Byte) : EncodeLength.Statement (.styDp d) := fun _ _ => rfl
theorem EncodeLength.staDp (d : Byte) : EncodeLength.Statement (.staDp d) := fun _ _ => rfl
theorem EncodeLength.stxDp (d : Byte) : EncodeLength.Statement (.stxDp d) := fun _ _ => rfl
theorem EncodeLength.staIdl (d : Byte) : EncodeLength.Statement (.staIdl d) := fun _ _ => rfl
theorem EncodeLength.dey : EncodeLength.Statement .dey := fun _ _ => rfl
theorem EncodeLength.bitImm (c : Word) : EncodeLength.Statement (.bitImm c) := fun m x => by cases m <;> cases x <;> rfl
theorem EncodeLength.txa : EncodeLength.Statement .txa := fun _ _ => rfl
theorem EncodeLength.phb : EncodeLength.Statement .phb := fun _ _ => rfl
theorem EncodeLength.styAbs (a : Word) : EncodeLength.Statement (.styAbs a) := fun _ _ => rfl
theorem EncodeLength.staAbs (a : Word) : EncodeLength.Statement (.staAbs a) := fun _ _ => rfl
theorem EncodeLength.stxAbs (a : Word) : EncodeLength.Statement (.stxAbs a) := fun _ _ => rfl
theorem EncodeLength.staAbl (a : Addr) : EncodeLength.Statement (.staAbl a) := fun _ _ => rfl
theorem EncodeLength.bcc (disp : Byte) : EncodeLength.Statement (.bcc disp) := fun _ _ => rfl
theorem EncodeLength.staIdy (d : Byte) : EncodeLength.Statement (.staIdy d) := fun _ _ => rfl
theorem EncodeLength.staIdp (d : Byte) : EncodeLength.Statement (.staIdp d) := fun _ _ => rfl
theorem EncodeLength.staIsy (d : Byte) : EncodeLength.Statement (.staIsy d) := fun _ _ => rfl
theorem EncodeLength.styDpx (d : Byte) : EncodeLength.Statement (.styDpx d) := fun _ _ => rfl
theorem EncodeLength.staDpx (d : Byte) : EncodeLength.Statement (.staDpx d) := fun _ _ => rfl
theorem EncodeLength.stxDpy (d : Byte) : EncodeLength.Statement (.stxDpy d) := fun _ _ => rfl
theorem EncodeLength.staIly (d : Byte) : EncodeLength.Statement (.staIly d) := fun _ _ => rfl
theorem EncodeLength.tya : EncodeLength.Statement .tya := fun _ _ => rfl
theorem EncodeLength.staAby (a : Word) : EncodeLength.Statement (.staAby a) := fun _ _ => rfl
theorem EncodeLength.txs : EncodeLength.Statement .txs := fun _ _ => rfl
theorem EncodeLength.txy : EncodeLength.Statement .txy := fun _ _ => rfl
theorem EncodeLength.stzAbs (a : Word) : EncodeLength.Statement (.stzAbs a) := fun _ _ => rfl
theorem EncodeLength.staAbx (a : Word) : EncodeLength.Statement (.staAbx a) := fun _ _ => rfl
theorem EncodeLength.stzAbx (a : Word) : EncodeLength.Statement (.stzAbx a) := fun _ _ => rfl
theorem EncodeLength.staAlx (a : Addr) : EncodeLength.Statement (.staAlx a) := fun _ _ => rfl
theorem EncodeLength.ldyImm (c : Word) : EncodeLength.Statement (.ldyImm c) := fun m x => by cases m <;> cases x <;> rfl
theorem EncodeLength.ldaIdx (d : Byte) : EncodeLength.Statement (.ldaIdx d) := fun _ _ => rfl
theorem EncodeLength.ldxImm (c : Word) : EncodeLength.Statement (.ldxImm c) := fun m x => by cases m <;> cases x <;> rfl
theorem EncodeLength.ldaSr (d : Byte) : EncodeLength.Statement (.ldaSr d) := fun _ _ => rfl
theorem EncodeLength.ldyDp (d : Byte) : EncodeLength.Statement (.ldyDp d) := fun _ _ => rfl
theorem EncodeLength.ldaDp (d : Byte) : EncodeLength.Statement (.ldaDp d) := fun _ _ => rfl
theorem EncodeLength.ldxDp (d : Byte) : EncodeLength.Statement (.ldxDp d) := fun _ _ => rfl
theorem EncodeLength.ldaIdl (d : Byte) : EncodeLength.Statement (.ldaIdl d) := fun _ _ => rfl
theorem EncodeLength.tay : EncodeLength.Statement .tay := fun _ _ => rfl
theorem EncodeLength.ldaImm (c : Word) : EncodeLength.Statement (.ldaImm c) := fun m x => by cases m <;> cases x <;> rfl
theorem EncodeLength.tax : EncodeLength.Statement .tax := fun _ _ => rfl
theorem EncodeLength.plb : EncodeLength.Statement .plb := fun _ _ => rfl
theorem EncodeLength.ldyAbs (a : Word) : EncodeLength.Statement (.ldyAbs a) := fun _ _ => rfl
theorem EncodeLength.ldaAbs (a : Word) : EncodeLength.Statement (.ldaAbs a) := fun _ _ => rfl
theorem EncodeLength.ldxAbs (a : Word) : EncodeLength.Statement (.ldxAbs a) := fun _ _ => rfl
theorem EncodeLength.ldaAbl (a : Addr) : EncodeLength.Statement (.ldaAbl a) := fun _ _ => rfl
theorem EncodeLength.bcs (disp : Byte) : EncodeLength.Statement (.bcs disp) := fun _ _ => rfl
theorem EncodeLength.ldaIdy (d : Byte) : EncodeLength.Statement (.ldaIdy d) := fun _ _ => rfl
theorem EncodeLength.ldaIdp (d : Byte) : EncodeLength.Statement (.ldaIdp d) := fun _ _ => rfl
theorem EncodeLength.ldaIsy (d : Byte) : EncodeLength.Statement (.ldaIsy d) := fun _ _ => rfl
theorem EncodeLength.ldyDpx (d : Byte) : EncodeLength.Statement (.ldyDpx d) := fun _ _ => rfl
theorem EncodeLength.ldaDpx (d : Byte) : EncodeLength.Statement (.ldaDpx d) := fun _ _ => rfl
theorem EncodeLength.ldxDpy (d : Byte) : EncodeLength.Statement (.ldxDpy d) := fun _ _ => rfl
theorem EncodeLength.ldaIly (d : Byte) : EncodeLength.Statement (.ldaIly d) := fun _ _ => rfl
theorem EncodeLength.clv : EncodeLength.Statement .clv := fun _ _ => rfl
theorem EncodeLength.ldaAby (a : Word) : EncodeLength.Statement (.ldaAby a) := fun _ _ => rfl
theorem EncodeLength.tsx : EncodeLength.Statement .tsx := fun _ _ => rfl
theorem EncodeLength.tyx : EncodeLength.Statement .tyx := fun _ _ => rfl
theorem EncodeLength.ldyAbx (a : Word) : EncodeLength.Statement (.ldyAbx a) := fun _ _ => rfl
theorem EncodeLength.ldaAbx (a : Word) : EncodeLength.Statement (.ldaAbx a) := fun _ _ => rfl
theorem EncodeLength.ldxAby (a : Word) : EncodeLength.Statement (.ldxAby a) := fun _ _ => rfl
theorem EncodeLength.ldaAlx (a : Addr) : EncodeLength.Statement (.ldaAlx a) := fun _ _ => rfl
theorem EncodeLength.cpyImm (c : Word) : EncodeLength.Statement (.cpyImm c) := fun m x => by cases m <;> cases x <;> rfl
theorem EncodeLength.cmpIdx (d : Byte) : EncodeLength.Statement (.cmpIdx d) := fun _ _ => rfl
theorem EncodeLength.rep (mask : Byte) : EncodeLength.Statement (.rep mask) := fun _ _ => rfl
theorem EncodeLength.cmpSr (d : Byte) : EncodeLength.Statement (.cmpSr d) := fun _ _ => rfl
theorem EncodeLength.cpyDp (d : Byte) : EncodeLength.Statement (.cpyDp d) := fun _ _ => rfl
theorem EncodeLength.cmpDp (d : Byte) : EncodeLength.Statement (.cmpDp d) := fun _ _ => rfl
theorem EncodeLength.decDp (d : Byte) : EncodeLength.Statement (.decDp d) := fun _ _ => rfl
theorem EncodeLength.cmpIdl (d : Byte) : EncodeLength.Statement (.cmpIdl d) := fun _ _ => rfl
theorem EncodeLength.iny : EncodeLength.Statement .iny := fun _ _ => rfl
theorem EncodeLength.cmpImm (c : Word) : EncodeLength.Statement (.cmpImm c) := fun m x => by cases m <;> cases x <;> rfl
theorem EncodeLength.dex : EncodeLength.Statement .dex := fun _ _ => rfl
theorem EncodeLength.wai : EncodeLength.Statement .wai := fun _ _ => rfl
theorem EncodeLength.cpyAbs (a : Word) : EncodeLength.Statement (.cpyAbs a) := fun _ _ => rfl
theorem EncodeLength.cmpAbs (a : Word) : EncodeLength.Statement (.cmpAbs a) := fun _ _ => rfl
theorem EncodeLength.decAbs (a : Word) : EncodeLength.Statement (.decAbs a) := fun _ _ => rfl
theorem EncodeLength.cmpAbl (a : Addr) : EncodeLength.Statement (.cmpAbl a) := fun _ _ => rfl
theorem EncodeLength.bne (disp : Byte) : EncodeLength.Statement (.bne disp) := fun _ _ => rfl
theorem EncodeLength.cmpIdy (d : Byte) : EncodeLength.Statement (.cmpIdy d) := fun _ _ => rfl
theorem EncodeLength.cmpIdp (d : Byte) : EncodeLength.Statement (.cmpIdp d) := fun _ _ => rfl
theorem EncodeLength.cmpIsy (d : Byte) : EncodeLength.Statement (.cmpIsy d) := fun _ _ => rfl
theorem EncodeLength.pei (d : Byte) : EncodeLength.Statement (.pei d) := fun _ _ => rfl
theorem EncodeLength.cmpDpx (d : Byte) : EncodeLength.Statement (.cmpDpx d) := fun _ _ => rfl
theorem EncodeLength.decDpx (d : Byte) : EncodeLength.Statement (.decDpx d) := fun _ _ => rfl
theorem EncodeLength.cmpIly (d : Byte) : EncodeLength.Statement (.cmpIly d) := fun _ _ => rfl
theorem EncodeLength.cld : EncodeLength.Statement .cld := fun _ _ => rfl
theorem EncodeLength.cmpAby (a : Word) : EncodeLength.Statement (.cmpAby a) := fun _ _ => rfl
theorem EncodeLength.phx : EncodeLength.Statement .phx := fun _ _ => rfl
theorem EncodeLength.stp : EncodeLength.Statement .stp := fun _ _ => rfl
theorem EncodeLength.jmlInd (a : Word) : EncodeLength.Statement (.jmlInd a) := fun _ _ => rfl
theorem EncodeLength.cmpAbx (a : Word) : EncodeLength.Statement (.cmpAbx a) := fun _ _ => rfl
theorem EncodeLength.decAbx (a : Word) : EncodeLength.Statement (.decAbx a) := fun _ _ => rfl
theorem EncodeLength.cmpAlx (a : Addr) : EncodeLength.Statement (.cmpAlx a) := fun _ _ => rfl
theorem EncodeLength.cpxImm (c : Word) : EncodeLength.Statement (.cpxImm c) := fun m x => by cases m <;> cases x <;> rfl
theorem EncodeLength.sbcIdx (d : Byte) : EncodeLength.Statement (.sbcIdx d) := fun _ _ => rfl
theorem EncodeLength.sep (mask : Byte) : EncodeLength.Statement (.sep mask) := fun _ _ => rfl
theorem EncodeLength.sbcSr (d : Byte) : EncodeLength.Statement (.sbcSr d) := fun _ _ => rfl
theorem EncodeLength.cpxDp (d : Byte) : EncodeLength.Statement (.cpxDp d) := fun _ _ => rfl
theorem EncodeLength.sbcDp (d : Byte) : EncodeLength.Statement (.sbcDp d) := fun _ _ => rfl
theorem EncodeLength.incDp (d : Byte) : EncodeLength.Statement (.incDp d) := fun _ _ => rfl
theorem EncodeLength.sbcIdl (d : Byte) : EncodeLength.Statement (.sbcIdl d) := fun _ _ => rfl
theorem EncodeLength.inx : EncodeLength.Statement .inx := fun _ _ => rfl
theorem EncodeLength.sbcImm (c : Word) : EncodeLength.Statement (.sbcImm c) := fun m x => by cases m <;> cases x <;> rfl
theorem EncodeLength.nop : EncodeLength.Statement .nop := fun _ _ => rfl
theorem EncodeLength.xba : EncodeLength.Statement .xba := fun _ _ => rfl
theorem EncodeLength.cpxAbs (a : Word) : EncodeLength.Statement (.cpxAbs a) := fun _ _ => rfl
theorem EncodeLength.sbcAbs (a : Word) : EncodeLength.Statement (.sbcAbs a) := fun _ _ => rfl
theorem EncodeLength.incAbs (a : Word) : EncodeLength.Statement (.incAbs a) := fun _ _ => rfl
theorem EncodeLength.sbcAbl (a : Addr) : EncodeLength.Statement (.sbcAbl a) := fun _ _ => rfl
theorem EncodeLength.beq (disp : Byte) : EncodeLength.Statement (.beq disp) := fun _ _ => rfl
theorem EncodeLength.sbcIdy (d : Byte) : EncodeLength.Statement (.sbcIdy d) := fun _ _ => rfl
theorem EncodeLength.sbcIdp (d : Byte) : EncodeLength.Statement (.sbcIdp d) := fun _ _ => rfl
theorem EncodeLength.sbcIsy (d : Byte) : EncodeLength.Statement (.sbcIsy d) := fun _ _ => rfl
theorem EncodeLength.pea (c : Word) : EncodeLength.Statement (.pea c) := fun _ _ => rfl
theorem EncodeLength.sbcDpx (d : Byte) : EncodeLength.Statement (.sbcDpx d) := fun _ _ => rfl
theorem EncodeLength.incDpx (d : Byte) : EncodeLength.Statement (.incDpx d) := fun _ _ => rfl
theorem EncodeLength.sbcIly (d : Byte) : EncodeLength.Statement (.sbcIly d) := fun _ _ => rfl
theorem EncodeLength.sed : EncodeLength.Statement .sed := fun _ _ => rfl
theorem EncodeLength.sbcAby (a : Word) : EncodeLength.Statement (.sbcAby a) := fun _ _ => rfl
theorem EncodeLength.plx : EncodeLength.Statement .plx := fun _ _ => rfl
theorem EncodeLength.xce : EncodeLength.Statement .xce := fun _ _ => rfl
theorem EncodeLength.jsrIax (a : Word) : EncodeLength.Statement (.jsrIax a) := fun _ _ => rfl
theorem EncodeLength.sbcAbx (a : Word) : EncodeLength.Statement (.sbcAbx a) := fun _ _ => rfl
theorem EncodeLength.incAbx (a : Word) : EncodeLength.Statement (.incAbx a) := fun _ _ => rfl
theorem EncodeLength.sbcAlx (a : Addr) : EncodeLength.Statement (.sbcAlx a) := fun _ _ => rfl

end Sys2Proof.Laws
end

