-- ==== Sys2Proof/Tests/Slice0.lean ====
section
/-! SUPPORT. The model's own tests: well-formedness, one word for every opcode, one step for every mnemonic, and for
every statement with hypotheses a state and operands that meet them. The expected values of the step tests are those of
spec/96_test_vectors_derived.md, under the number each test names; the words of the decode tests are written out from the
opcode map and the formats of spec/30_encoding.md (R91, R92, R93, R96). -/

namespace Sys2Proof.Tests

open Sys2Proof Sys2Proof.Machine

/-! ### Well-formedness -/

/-- An immediate of M's width does not fit one byte. -/
theorem test_wf_refuses_wide_immediate_m : Instr.wf true false (.oraImm 0x0100) = false := by decide

/-- An immediate of flag X's width does not fit one byte. -/
theorem test_wf_refuses_wide_immediate_x : Instr.wf false true (.ldxImm 0x0100) = false := by decide

/-- Each width is judged by its own flag. -/
theorem test_wf_accepts :
    Instr.wf false true (.oraImm 0x0100) = true ∧ Instr.wf true false (.ldxImm 0x0100) = true ∧
    Instr.wf true true (.oraImm 0x00FF) = true ∧ Instr.wf true true (.ldxImm 0x00FF) = true := by decide

/-! ### Decoding and encoding -/

/-- Do these opcodes with the bytes $12 $34 $56 behind them decode to these instructions of these lengths, and do the
instructions encode to those bytes? -/
def wordsAre (m x : Bool) (rows : List (Byte × Instr × Nat)) : Bool :=
  rows.all fun r =>
    let bytes : List Byte := [r.1, 0x12, 0x34, 0x56]
    (match decode m x bytes with
      | .ok q => q.1 == r.2.1 && q.2 == bytes.drop r.2.2
      | .error _ => false) &&
    encode m x r.2.1 == bytes.take r.2.2

theorem test_words_0 : wordsAre true true [
    (0x00, .brk 0x12, 2), (0x01, .oraIdx 0x12, 2), (0x02, .cop 0x12, 2), (0x03, .oraSr 0x12, 2),
    (0x04, .tsbDp 0x12, 2), (0x05, .oraDp 0x12, 2), (0x06, .aslDp 0x12, 2), (0x07, .oraIdl 0x12, 2),
    (0x08, .php, 1), (0x09, .oraImm 0x0012, 2), (0x0A, .aslAcc, 1), (0x0B, .phd, 1),
    (0x0C, .tsbAbs 0x3412, 3), (0x0D, .oraAbs 0x3412, 3), (0x0E, .aslAbs 0x3412, 3), (0x0F, .oraAbl 0x563412, 4)] = true := by decide

theorem test_words_1 : wordsAre true true [
    (0x10, .bpl 0x12, 2), (0x11, .oraIdy 0x12, 2), (0x12, .oraIdp 0x12, 2), (0x13, .oraIsy 0x12, 2),
    (0x14, .trbDp 0x12, 2), (0x15, .oraDpx 0x12, 2), (0x16, .aslDpx 0x12, 2), (0x17, .oraIly 0x12, 2),
    (0x18, .clc, 1), (0x19, .oraAby 0x3412, 3), (0x1A, .incAcc, 1), (0x1B, .tcs, 1),
    (0x1C, .trbAbs 0x3412, 3), (0x1D, .oraAbx 0x3412, 3), (0x1E, .aslAbx 0x3412, 3), (0x1F, .oraAlx 0x563412, 4)] = true := by decide

theorem test_words_2 : wordsAre true true [
    (0x20, .jsrAbs 0x3412, 3), (0x21, .andIdx 0x12, 2), (0x22, .jsl 0x563412, 4), (0x23, .andSr 0x12, 2),
    (0x24, .bitDp 0x12, 2), (0x25, .andDp 0x12, 2), (0x26, .rolDp 0x12, 2), (0x27, .andIdl 0x12, 2),
    (0x28, .plp, 1), (0x29, .andImm 0x0012, 2), (0x2A, .rolAcc, 1), (0x2B, .pld, 1),
    (0x2C, .bitAbs 0x3412, 3), (0x2D, .andAbs 0x3412, 3), (0x2E, .rolAbs 0x3412, 3), (0x2F, .andAbl 0x563412, 4)] = true := by decide

theorem test_words_3 : wordsAre true true [
    (0x30, .bmi 0x12, 2), (0x31, .andIdy 0x12, 2), (0x32, .andIdp 0x12, 2), (0x33, .andIsy 0x12, 2),
    (0x34, .bitDpx 0x12, 2), (0x35, .andDpx 0x12, 2), (0x36, .rolDpx 0x12, 2), (0x37, .andIly 0x12, 2),
    (0x38, .sec, 1), (0x39, .andAby 0x3412, 3), (0x3A, .decAcc, 1), (0x3B, .tsc, 1),
    (0x3C, .bitAbx 0x3412, 3), (0x3D, .andAbx 0x3412, 3), (0x3E, .rolAbx 0x3412, 3), (0x3F, .andAlx 0x563412, 4)] = true := by decide

theorem test_words_4 : wordsAre true true [
    (0x40, .rti, 1), (0x41, .eorIdx 0x12, 2), (0x42, .wdm 0x12, 2), (0x43, .eorSr 0x12, 2),
    (0x44, .mvp 0x12 0x34, 3), (0x45, .eorDp 0x12, 2), (0x46, .lsrDp 0x12, 2), (0x47, .eorIdl 0x12, 2),
    (0x48, .pha, 1), (0x49, .eorImm 0x0012, 2), (0x4A, .lsrAcc, 1), (0x4B, .phk, 1),
    (0x4C, .jmpAbs 0x3412, 3), (0x4D, .eorAbs 0x3412, 3), (0x4E, .lsrAbs 0x3412, 3), (0x4F, .eorAbl 0x563412, 4)] = true := by decide

theorem test_words_5 : wordsAre true true [
    (0x50, .bvc 0x12, 2), (0x51, .eorIdy 0x12, 2), (0x52, .eorIdp 0x12, 2), (0x53, .eorIsy 0x12, 2),
    (0x54, .mvn 0x12 0x34, 3), (0x55, .eorDpx 0x12, 2), (0x56, .lsrDpx 0x12, 2), (0x57, .eorIly 0x12, 2),
    (0x58, .cli, 1), (0x59, .eorAby 0x3412, 3), (0x5A, .phy, 1), (0x5B, .tcd, 1),
    (0x5C, .jmlLong 0x563412, 4), (0x5D, .eorAbx 0x3412, 3), (0x5E, .lsrAbx 0x3412, 3), (0x5F, .eorAlx 0x563412, 4)] = true := by decide

theorem test_words_6 : wordsAre true true [
    (0x60, .rts, 1), (0x61, .adcIdx 0x12, 2), (0x62, .per 0x3412, 3), (0x63, .adcSr 0x12, 2),
    (0x64, .stzDp 0x12, 2), (0x65, .adcDp 0x12, 2), (0x66, .rorDp 0x12, 2), (0x67, .adcIdl 0x12, 2),
    (0x68, .pla, 1), (0x69, .adcImm 0x0012, 2), (0x6A, .rorAcc, 1), (0x6B, .rtl, 1),
    (0x6C, .jmpInd 0x3412, 3), (0x6D, .adcAbs 0x3412, 3), (0x6E, .rorAbs 0x3412, 3), (0x6F, .adcAbl 0x563412, 4)] = true := by decide

theorem test_words_7 : wordsAre true true [
    (0x70, .bvs 0x12, 2), (0x71, .adcIdy 0x12, 2), (0x72, .adcIdp 0x12, 2), (0x73, .adcIsy 0x12, 2),
    (0x74, .stzDpx 0x12, 2), (0x75, .adcDpx 0x12, 2), (0x76, .rorDpx 0x12, 2), (0x77, .adcIly 0x12, 2),
    (0x78, .sei, 1), (0x79, .adcAby 0x3412, 3), (0x7A, .ply, 1), (0x7B, .tdc, 1),
    (0x7C, .jmpIax 0x3412, 3), (0x7D, .adcAbx 0x3412, 3), (0x7E, .rorAbx 0x3412, 3), (0x7F, .adcAlx 0x563412, 4)] = true := by decide

theorem test_words_8 : wordsAre true true [
    (0x80, .bra 0x12, 2), (0x81, .staIdx 0x12, 2), (0x82, .brl 0x3412, 3), (0x83, .staSr 0x12, 2),
    (0x84, .styDp 0x12, 2), (0x85, .staDp 0x12, 2), (0x86, .stxDp 0x12, 2), (0x87, .staIdl 0x12, 2),
    (0x88, .dey, 1), (0x89, .bitImm 0x0012, 2), (0x8A, .txa, 1), (0x8B, .phb, 1),
    (0x8C, .styAbs 0x3412, 3), (0x8D, .staAbs 0x3412, 3), (0x8E, .stxAbs 0x3412, 3), (0x8F, .staAbl 0x563412, 4)] = true := by decide

theorem test_words_9 : wordsAre true true [
    (0x90, .bcc 0x12, 2), (0x91, .staIdy 0x12, 2), (0x92, .staIdp 0x12, 2), (0x93, .staIsy 0x12, 2),
    (0x94, .styDpx 0x12, 2), (0x95, .staDpx 0x12, 2), (0x96, .stxDpy 0x12, 2), (0x97, .staIly 0x12, 2),
    (0x98, .tya, 1), (0x99, .staAby 0x3412, 3), (0x9A, .txs, 1), (0x9B, .txy, 1),
    (0x9C, .stzAbs 0x3412, 3), (0x9D, .staAbx 0x3412, 3), (0x9E, .stzAbx 0x3412, 3), (0x9F, .staAlx 0x563412, 4)] = true := by decide

theorem test_words_A : wordsAre true true [
    (0xA0, .ldyImm 0x0012, 2), (0xA1, .ldaIdx 0x12, 2), (0xA2, .ldxImm 0x0012, 2), (0xA3, .ldaSr 0x12, 2),
    (0xA4, .ldyDp 0x12, 2), (0xA5, .ldaDp 0x12, 2), (0xA6, .ldxDp 0x12, 2), (0xA7, .ldaIdl 0x12, 2),
    (0xA8, .tay, 1), (0xA9, .ldaImm 0x0012, 2), (0xAA, .tax, 1), (0xAB, .plb, 1),
    (0xAC, .ldyAbs 0x3412, 3), (0xAD, .ldaAbs 0x3412, 3), (0xAE, .ldxAbs 0x3412, 3), (0xAF, .ldaAbl 0x563412, 4)] = true := by decide

theorem test_words_B : wordsAre true true [
    (0xB0, .bcs 0x12, 2), (0xB1, .ldaIdy 0x12, 2), (0xB2, .ldaIdp 0x12, 2), (0xB3, .ldaIsy 0x12, 2),
    (0xB4, .ldyDpx 0x12, 2), (0xB5, .ldaDpx 0x12, 2), (0xB6, .ldxDpy 0x12, 2), (0xB7, .ldaIly 0x12, 2),
    (0xB8, .clv, 1), (0xB9, .ldaAby 0x3412, 3), (0xBA, .tsx, 1), (0xBB, .tyx, 1),
    (0xBC, .ldyAbx 0x3412, 3), (0xBD, .ldaAbx 0x3412, 3), (0xBE, .ldxAby 0x3412, 3), (0xBF, .ldaAlx 0x563412, 4)] = true := by decide

theorem test_words_C : wordsAre true true [
    (0xC0, .cpyImm 0x0012, 2), (0xC1, .cmpIdx 0x12, 2), (0xC2, .rep 0x12, 2), (0xC3, .cmpSr 0x12, 2),
    (0xC4, .cpyDp 0x12, 2), (0xC5, .cmpDp 0x12, 2), (0xC6, .decDp 0x12, 2), (0xC7, .cmpIdl 0x12, 2),
    (0xC8, .iny, 1), (0xC9, .cmpImm 0x0012, 2), (0xCA, .dex, 1), (0xCB, .wai, 1),
    (0xCC, .cpyAbs 0x3412, 3), (0xCD, .cmpAbs 0x3412, 3), (0xCE, .decAbs 0x3412, 3), (0xCF, .cmpAbl 0x563412, 4)] = true := by decide

theorem test_words_D : wordsAre true true [
    (0xD0, .bne 0x12, 2), (0xD1, .cmpIdy 0x12, 2), (0xD2, .cmpIdp 0x12, 2), (0xD3, .cmpIsy 0x12, 2),
    (0xD4, .pei 0x12, 2), (0xD5, .cmpDpx 0x12, 2), (0xD6, .decDpx 0x12, 2), (0xD7, .cmpIly 0x12, 2),
    (0xD8, .cld, 1), (0xD9, .cmpAby 0x3412, 3), (0xDA, .phx, 1), (0xDB, .stp, 1),
    (0xDC, .jmlInd 0x3412, 3), (0xDD, .cmpAbx 0x3412, 3), (0xDE, .decAbx 0x3412, 3), (0xDF, .cmpAlx 0x563412, 4)] = true := by decide

theorem test_words_E : wordsAre true true [
    (0xE0, .cpxImm 0x0012, 2), (0xE1, .sbcIdx 0x12, 2), (0xE2, .sep 0x12, 2), (0xE3, .sbcSr 0x12, 2),
    (0xE4, .cpxDp 0x12, 2), (0xE5, .sbcDp 0x12, 2), (0xE6, .incDp 0x12, 2), (0xE7, .sbcIdl 0x12, 2),
    (0xE8, .inx, 1), (0xE9, .sbcImm 0x0012, 2), (0xEA, .nop, 1), (0xEB, .xba, 1),
    (0xEC, .cpxAbs 0x3412, 3), (0xED, .sbcAbs 0x3412, 3), (0xEE, .incAbs 0x3412, 3), (0xEF, .sbcAbl 0x563412, 4)] = true := by decide

theorem test_words_F : wordsAre true true [
    (0xF0, .beq 0x12, 2), (0xF1, .sbcIdy 0x12, 2), (0xF2, .sbcIdp 0x12, 2), (0xF3, .sbcIsy 0x12, 2),
    (0xF4, .pea 0x3412, 3), (0xF5, .sbcDpx 0x12, 2), (0xF6, .incDpx 0x12, 2), (0xF7, .sbcIly 0x12, 2),
    (0xF8, .sed, 1), (0xF9, .sbcAby 0x3412, 3), (0xFA, .plx, 1), (0xFB, .xce, 1),
    (0xFC, .jsrIax 0x3412, 3), (0xFD, .sbcAbx 0x3412, 3), (0xFE, .incAbx 0x3412, 3), (0xFF, .sbcAlx 0x563412, 4)] = true := by decide

/-- The twelve flag-sized immediates at the 16-bit width. -/
theorem test_words_wide : wordsAre false false [
    (0x09, .oraImm 0x3412, 3), (0x29, .andImm 0x3412, 3), (0x49, .eorImm 0x3412, 3), (0x69, .adcImm 0x3412, 3),
    (0x89, .bitImm 0x3412, 3), (0xA0, .ldyImm 0x3412, 3), (0xA2, .ldxImm 0x3412, 3), (0xA9, .ldaImm 0x3412, 3),
    (0xC0, .cpyImm 0x3412, 3), (0xC9, .cmpImm 0x3412, 3), (0xE0, .cpxImm 0x3412, 3), (0xE9, .sbcImm 0x3412, 3)] = true := by decide

/-- A list that ends too early is rejected by name. -/
theorem test_decode_rejects :
    decode true true [] = .error .noOpcode ∧ decode true true [0xA9] = .error (.truncated 0xA9) ∧
    decode false true [0xA9, 0x12] = .error (.truncated 0xA9) ∧
    decode true true [0x22, 0x12, 0x34] = .error (.truncated 0x22) := ⟨rfl, rfl, rfl, rfl⟩

/-- The table's numbering of bits: the first byte is the least significant. -/
theorem test_decodeTableWord :
    decodeTableWord 8 0x00 = some (.brk 0x00) ∧ decodeTableWord 8 0xA9 = some (.ldaImm 0x0000) ∧
    decodeTableWord 32 0x12345622 = some (.jsl 0x123456) := by decide

/-! ### Steps -/

/-- A state after reset but for PC and K, the flag byte, E, the bytes at PC and the listed bytes of data. -/
def start (pc : Addr) (p : Byte) (e : Bool) (code : List Byte) (data : List Host.Cell) : State :=
  { State.reset with
    pc := addrOffset pc
    k := addrBank pc
    fN := p.getLsbD 7, fV := p.getLsbD 6, fM := p.getLsbD 5, fX := p.getLsbD 4
    fD := p.getLsbD 3, fI := p.getLsbD 2, fZ := p.getLsbD 1, fC := p.getLsbD 0
    fE := e
    mem := storeBytes (addrBank pc) (addrOffset pc) code (data.foldl (fun m c => memWrite m c.1 c.2) []) }

/-- What one step leaves, as far as `f` looks. -/
def after {α : Type} (s : State) (f : State → α) : Option α :=
  match step s with
  | .next t => some (f t)
  | .fault _ => none
  | .refused _ => none

/-- T187: BRK, native (source scenario 6) -/
theorem test_brk :
    after { start 0x00800B 0x25 false [0x00, 0xAA] [(0x00FFE7, 0x90)] with x := 0x01EF, sp := 0x01EF }
      (fun t => (t.sp, memRead t.mem 0x0001EF, memRead t.mem 0x0001EE, t.pc)) = some (0x01EB, 0x00, 0x80, 0x9000) := by decide

/-- T20: ORA #$81, M=1 (B kept) -/
theorem test_oraImm :
    after { start 0x008000 0x30 false [0x09, 0x81] [] with a := 0x1250 }
      (fun t => (t.a, t.fN, t.pc)) = some (0x12D1, true, 0x8002) := by decide

/-- T189: COP, native, K nonzero -/
theorem test_cop :
    after { start 0x128000 0x00 false [0x02, 0x07] [(0x00FFE5, 0xA0)] with sp := 0x01FF }
      (fun t => (t.sp, t.k, t.fI, memRead t.mem 0x0001FF, t.pc)) = some (0x01FB, 0x00, true, 0x12, 0xA000) := by decide

/-- T97: TSB abs, M=0: Z from the old operand -/
theorem test_tsbAbs :
    after { start 0x008000 0x00 false [0x0C, 0x00, 0x20] [(0x002000, 0x01)] with a := 0x0101 }
      (fun t => (memRead t.mem 0x002001, memRead t.mem 0x002000, t.pc)) = some (0x01, 0x01, 0x8003) := by decide

/-- T83: ASL abs, M=0: high byte written first -/
theorem test_aslAbs :
    after (start 0x008000 0x00 false [0x0E, 0x00, 0x20] [(0x002000, 0x01), (0x002001, 0x40)])
      (fun t => (t.fN, memRead t.mem 0x002001, memRead t.mem 0x002000, t.pc)) = some (true, 0x80, 0x02, 0x8003) := by decide

/-- T147: PHP, emulation: bits 5 and 4 pushed as 1 -/
theorem test_php :
    after { start 0x008000 0xF3 true [0x08] [] with sp := 0x01FF }
      (fun t => (t.sp, memRead t.mem 0x0001FF, t.pc)) = some (0x01FE, 0xF3, 0x8001) := by decide

/-- T149: PHD, emulation, SP=$0100: both bytes stay in page 1 (decision D22) -/
theorem test_phd :
    after { start 0x008000 0x34 true [0x0B] [] with sp := 0x0100, dp := 0x1234 }
      (fun t => (t.sp, memRead t.mem 0x000100, memRead t.mem 0x0001FF, t.pc)) = some (0x01FE, 0x12, 0x34, 0x8001) := by decide

/-- T163: BPL not taken -/
theorem test_bpl :
    after (start 0x008000 0x80 false [0x10, 0x02] [])
      (fun t => t.pc) = some 0x8002 := by decide

/-- T98: TRB abs, M=0 -/
theorem test_trbAbs :
    after { start 0x008000 0x00 false [0x1C, 0x00, 0x20] [(0x002000, 0x34), (0x002001, 0x12)] with a := 0x00FF }
      (fun t => (memRead t.mem 0x002001, memRead t.mem 0x002000, t.pc)) = some (0x12, 0x00, 0x8003) := by decide

/-- T100: CLC (the opcode of source scenario 1), every flag set before -/
theorem test_clc :
    after (start 0x008000 0xFF true [0x18] [])
      (fun t => (t.fC, t.pc)) = some (false, 0x8001) := by decide

/-- T91: INC dp, M=1: $FF wraps to $00 -/
theorem test_incDp :
    after (start 0x008000 0x30 false [0xE6, 0x10] [(0x000010, 0xFF)])
      (fun t => (t.fZ, memRead t.mem 0x000010, t.pc)) = some (true, 0x00, 0x8002) := by decide

/-- T123: TCS, emulation: high byte of A ignored -/
theorem test_tcs :
    after { start 0x008000 0x30 true [0x1B] [] with a := 0x12F0 }
      (fun t => (t.sp, t.pc)) = some (0x01F0, 0x8001) := by decide

/-- T183: JSR (a,X) -/
theorem test_jsrIax :
    after { start 0x008000 0x00 false [0xFC, 0x00, 0x90] [(0x009002, 0x34), (0x009003, 0x12)] with x := 0x0002, sp := 0x01FF }
      (fun t => (t.sp, memRead t.mem 0x0001FF, memRead t.mem 0x0001FE, t.pc)) = some (0x01FD, 0x80, 0x02, 0x1234) := by decide

/-- T23: AND (dp,X), M=0 -/
theorem test_andIdx :
    after { start 0x008000 0x10 false [0x21, 0x10] [(0x000015, 0x30), (0x7E3000, 0xFF), (0x7E3001, 0x0F)] with a := 0xF0F0, x := 0x0004, db := 0x7E }
      (fun t => (t.a, t.pc)) = some (0x00F0, 0x8002) := by decide

/-- T182: JSL long then RTL -/
theorem test_jsl :
    after { start 0x018000 0x00 false [0x22, 0x00, 0x90, 0x7E] [] with sp := 0x01FF }
      (fun t => (t.sp, t.k, memRead t.mem 0x0001FF, memRead t.mem 0x0001FE, t.pc)) = some (0x01FC, 0x7E, 0x01, 0x80, 0x9000) := by decide

/-- T182: RTL after that JSL -/
theorem test_rtl :
    after { start 0x7E9000 0x00 false [0x6B] [(0x0001FD, 0x03), (0x0001FE, 0x80), (0x0001FF, 0x01)] with sp := 0x01FC }
      (fun t => (t.sp, t.k, t.pc)) = some (0x01FF, 0x01, 0x8004) := by decide

/-- T55: BIT abs, M=0: N and V from bits 15 and 14 -/
theorem test_bitAbs :
    after { start 0x008000 0x00 false [0x2C, 0x00, 0x20] [(0x002000, 0x01), (0x002001, 0x40)] with a := 0x0001 }
      (fun t => (t.fV, t.pc)) = some (true, 0x8003) := by decide

/-- T87: ROL abs,X, M=0, C=1 in -/
theorem test_rolAbx :
    after { start 0x008000 0x11 false [0x3E, 0x00, 0x20] [(0x002003, 0x80)] with x := 0x0002 }
      (fun t => (memRead t.mem 0x002003, memRead t.mem 0x002002, t.pc)) = some (0x00, 0x01, 0x8003) := by decide

/-- T155: PLP, native: flag X=1 truncates X and Y -/
theorem test_plp :
    after { start 0x008000 0x00 false [0x28] [(0x0001FF, 0xFF)] with x := 0x1234, y := 0x5678, sp := 0x01FE }
      (fun t => (t.x, t.y, t.sp, t.fN, t.pc)) = some (0x0034, 0x0078, 0x01FF, true, 0x8001) := by decide

/-- T158: PLD, emulation, SP=$01FF: both bytes from page 1 -/
theorem test_pld :
    after { start 0x008000 0x34 true [0x2B] [(0x000100, 0x34), (0x000101, 0x12)] with sp := 0x01FF }
      (fun t => (t.sp, t.dp, t.pc)) = some (0x0101, 0x1234, 0x8001) := by decide

/-- T164: BMI taken, backward -/
theorem test_bmi :
    after (start 0x008000 0x80 false [0x30, 0xFC] [])
      (fun t => t.pc) = some 0x7FFE := by decide

/-- T101: SEC -/
theorem test_sec :
    after (start 0x008000 0x00 false [0x38] [])
      (fun t => (t.fC, t.pc)) = some (true, 0x8001) := by decide

/-- T94: DEC A, M=1: $00 becomes $FF (B kept) -/
theorem test_decAcc :
    after { start 0x008000 0x30 false [0x3A] [] with a := 0x1200 }
      (fun t => (t.a, t.fN, t.pc)) = some (0x12FF, true, 0x8001) := by decide

/-- T125: TSC, M=1: all 16 bits, N and Z from 16 bits -/
theorem test_tsc :
    after { start 0x008000 0x30 false [0x3B] [] with a := 0xFFFF }
      (fun t => (t.a, t.pc)) = some (0x01FD, 0x8001) := by decide

/-- T185: RTI, native: P, PC, K -/
theorem test_rti :
    after { start 0x008000 0x04 false [0x40] [(0x0001FC, 0x31), (0x0001FD, 0x34), (0x0001FE, 0x12), (0x0001FF, 0x7E)] with x := 0x1234, sp := 0x01FB }
      (fun t => (t.x, t.sp, t.k, t.fM, t.pc)) = some (0x0034, 0x01FF, 0x7E, true, 0x1234) := by decide

/-- T24: EOR abs,X, M=0, index carries into the next bank -/
theorem test_eorAbx :
    after { start 0x008000 0x00 false [0x5D, 0xFF, 0xFF] [(0x7F0000, 0x55), (0x7F0001, 0xAA)] with a := 0xFFFF, x := 0x0001, db := 0x7E }
      (fun t => (t.a, t.pc)) = some (0x55AA, 0x8003) := by decide

/-- T140: WDM: the operand byte is skipped -/
theorem test_wdm :
    after (start 0x008000 0x00 false [0x42, 0xFF] [])
      (fun t => t.pc) = some 0x8002 := by decide

/-- T192: MVP, M=1 and flag X=1: 16-bit count, 8-bit indexes wrap -/
theorem test_mvp :
    after { start 0x008000 0x30 false [0x44, 0x01, 0x02] [(0x020000, 0x55)] with a := 0xAB00 }
      (fun t => (t.a, t.x, t.y, t.db, t.pc)) = some (0xAAFF, 0x00FF, 0x00FF, 0x01, 0x8000) := by decide

/-- T85: LSR A, M=0: bit 0 to C -/
theorem test_lsrAcc :
    after { start 0x008000 0x80 false [0x4A] [] with a := 0x0001 }
      (fun t => (t.a, t.fN, t.fZ, t.fC, t.pc)) = some (0x0000, false, true, true, 0x8001) := by decide

/-- T143: PHA, emulation, SP=$0100: wraps to $01FF -/
theorem test_pha :
    after { start 0x008000 0x34 true [0x48] [] with a := 0x0077, sp := 0x0100 }
      (fun t => (t.sp, memRead t.mem 0x000100, t.pc)) = some (0x01FF, 0x77, 0x8001) := by decide

/-- T150: PHK -/
theorem test_phk :
    after { start 0x128000 0x30 false [0x4B] [] with sp := 0x01FF }
      (fun t => (t.sp, memRead t.mem 0x0001FF, t.pc)) = some (0x01FE, 0x12, 0x8001) := by decide

/-- T178: JMP (a), emulation, pointer at $20FF: high byte from $2000 -/
theorem test_jmpInd :
    after (start 0x008000 0x34 true [0x6C, 0xFF, 0x20] [(0x002000, 0x56), (0x0020FF, 0x34)])
      (fun t => t.pc) = some 0x5634 := by decide

/-- T165: BVC not taken -/
theorem test_bvc :
    after (start 0x008000 0x40 false [0x50, 0x10] [])
      (fun t => t.pc) = some 0x8002 := by decide

/-- T193: MVN, A=$0000: one byte, A ends at $FFFF, PC moves on -/
theorem test_mvn :
    after { start 0x008000 0x00 false [0x54, 0x00, 0x00] [(0x00FFFF, 0x77)] with x := 0xFFFF, y := 0x0010 }
      (fun t => (t.a, t.x, t.y, memRead t.mem 0x000010, t.pc)) = some (0xFFFF, 0x0000, 0x0011, 0x77, 0x8003) := by decide

/-- T102: CLI -/
theorem test_cli :
    after (start 0x008000 0x04 false [0x58] [])
      (fun t => (t.fI, t.pc)) = some (false, 0x8001) := by decide

/-- T145: PHY, flag X=1 -/
theorem test_phy :
    after { start 0x008000 0x30 false [0x5A] [] with y := 0x0042 }
      (fun t => (t.sp, memRead t.mem 0x0001FD, t.pc)) = some (0x01FC, 0x42, 0x8001) := by decide

/-- T126: TCD, M=1: all 16 bits -/
theorem test_tcd :
    after { start 0x008000 0x30 false [0x5B] [] with a := 0x8000 }
      (fun t => (t.dp, t.fN, t.pc)) = some (0x8000, true, 0x8001) := by decide

/-- T180: JML [a] -/
theorem test_jmlInd :
    after (start 0x008000 0x00 false [0xDC, 0x00, 0x20] [(0x002000, 0x56), (0x002001, 0x34), (0x002002, 0x12)])
      (fun t => (t.k, t.pc)) = some (0x12, 0x3456) := by decide

/-- T184: RTS at the top of the bank: $FFFF + 1 wraps to $0000 -/
theorem test_rts :
    after (start 0x008000 0x00 false [0x60] [(0x0001FE, 0xFF), (0x0001FF, 0xFF)])
      (fun t => (t.sp, t.pc)) = some (0x01FF, 0x0000) := by decide

/-- T26: ADC #$50 to $50, M=1: signed overflow -/
theorem test_adcImm :
    after { start 0x008000 0x30 false [0x69, 0x50] [] with a := 0x0050 }
      (fun t => (t.a, t.fN, t.fV, t.pc)) = some (0x00A0, true, true, 0x8002) := by decide

/-- T161: PER with a negative displacement -/
theorem test_per :
    after { start 0x008000 0x30 false [0x62, 0xFD, 0xFF] [] with sp := 0x01FF }
      (fun t => (t.sp, memRead t.mem 0x0001FF, memRead t.mem 0x0001FE, t.pc)) = some (0x01FD, 0x80, 0x00, 0x8003) := by decide

/-- T80: STZ abs, M=0 -/
theorem test_stzAbs :
    after { start 0x008000 0x00 false [0x9C, 0x00, 0x20] [] with a := 0xFFFF }
      (fun t => (memRead t.mem 0x002000, memRead t.mem 0x002001, t.pc)) = some (0x00, 0x00, 0x8003) := by decide

/-- T89: ROR dp, M=1, C=1 in -/
theorem test_rorDp :
    after (start 0x008000 0x31 false [0x66, 0x10] [(0x000010, 0x01)])
      (fun t => (t.fN, memRead t.mem 0x000010, t.pc)) = some (true, 0x80, 0x8002) := by decide

/-- T151: PLA, M=1: B kept, N set -/
theorem test_pla :
    after { start 0x008000 0x30 false [0x68] [(0x0001FF, 0x80)] with a := 0x1200, sp := 0x01FE }
      (fun t => (t.a, t.sp, t.fN, t.pc)) = some (0x1280, 0x01FF, true, 0x8001) := by decide

/-- T166: BVS taken -/
theorem test_bvs :
    after (start 0x008000 0x40 false [0x70, 0x10] [])
      (fun t => t.pc) = some 0x8012 := by decide

/-- T103: SEI (the opcode of source scenario 2) -/
theorem test_sei :
    after (start 0x008000 0x01 false [0x78] [])
      (fun t => (t.fI, t.pc)) = some (true, 0x8001) := by decide

/-- T154: PLY, emulation, SP=$01FF: wraps to $0100 -/
theorem test_ply :
    after { start 0x008000 0x34 true [0x7A] [(0x000100, 0x7F)] with sp := 0x01FF }
      (fun t => (t.y, t.sp, t.pc)) = some (0x007F, 0x0100, 0x8001) := by decide

/-- T127: TDC -/
theorem test_tdc :
    after { start 0x008000 0x30 false [0x7B] [] with a := 0xFFFF }
      (fun t => (t.a, t.fZ, t.pc)) = some (0x0000, true, 0x8001) := by decide

/-- T172: BRA, emulation mode, target on another page: still one idle (decision D12) -/
theorem test_bra :
    after (start 0x0080F0 0x34 true [0x80, 0x7F] [])
      (fun t => t.pc) = some 0x8171 := by decide

/-- T77: STA dp at DP+$FF, M=0: the high byte wraps inside bank 0 -/
theorem test_staDp :
    after { start 0x008000 0x00 false [0x85, 0xFF] [] with a := 0x1234, dp := 0xFF00 }
      (fun t => (memRead t.mem 0x00FFFF, memRead t.mem 0x000000, t.pc)) = some (0x34, 0x12, 0x8002) := by decide

/-- T173: BRL backward -/
theorem test_brl :
    after (start 0x008000 0x00 false [0x82, 0xFD, 0xFF] [])
      (fun t => t.pc) = some 0x8000 := by decide

/-- T79: STY dp,X, flag X=1 -/
theorem test_styDpx :
    after { start 0x008000 0x30 false [0x94, 0x10] [] with x := 0x0002, y := 0x0099 }
      (fun t => (memRead t.mem 0x000012, t.pc)) = some (0x99, 0x8002) := by decide

/-- T78: STX dp,Y, flag X=0 -/
theorem test_stxDpy :
    after { start 0x008000 0x20 false [0x96, 0x10] [] with x := 0x1234, y := 0x0002 }
      (fun t => (memRead t.mem 0x000012, memRead t.mem 0x000013, t.pc)) = some (0x34, 0x12, 0x8002) := by decide

/-- T132: DEY, flag X=0: $8000 becomes $7FFF -/
theorem test_dey :
    after { start 0x008000 0xA0 false [0x88] [] with y := 0x8000 }
      (fun t => (t.y, t.fN, t.pc)) = some (0x7FFF, false, 0x8001) := by decide

/-- T114: TXA, M=0, flag X=1: A gets the zero-extended X -/
theorem test_txa :
    after { start 0x008000 0x10 false [0x8A] [] with a := 0xFFFF, x := 0x0080 }
      (fun t => (t.a, t.pc)) = some (0x0080, 0x8001) := by decide

/-- T148: PHB -/
theorem test_phb :
    after { start 0x008000 0x30 false [0x8B] [] with db := 0x7E }
      (fun t => (t.sp, memRead t.mem 0x0001FD, t.pc)) = some (0x01FC, 0x7E, 0x8001) := by decide

/-- T167: BCC taken -/
theorem test_bcc :
    after (start 0x008000 0x00 false [0x90, 0x02] [])
      (fun t => t.pc) = some 0x8004 := by decide

/-- T116: TYA, M=1 -/
theorem test_tya :
    after { start 0x008000 0x30 false [0x98] [] with a := 0x1234 }
      (fun t => (t.a, t.fZ, t.pc)) = some (0x1200, true, 0x8001) := by decide

/-- T120: TXS, emulation: SP high byte stays $01, no flags -/
theorem test_txs :
    after { start 0x008000 0x30 true [0x9A] [] with x := 0x0080 }
      (fun t => (t.sp, t.pc)) = some (0x0180, 0x8001) := by decide

/-- T117: TXY, flag X=0 -/
theorem test_txy :
    after { start 0x008000 0x20 false [0x9B] [] with x := 0x8000, y := 0x0001 }
      (fun t => (t.y, t.fN, t.pc)) = some (0x8000, true, 0x8001) := by decide

/-- T72: LDY abs,X, flag X=0, 16-bit load (penalty idle always) -/
theorem test_ldyAbx :
    after { start 0x008000 0x20 false [0xBC, 0x00, 0x20] [] with x := 0x0100 }
      (fun t => (t.fZ, t.pc)) = some (true, 0x8003) := by decide

/-- T67: LDA abs, M=0, operand straddles the bank end -/
theorem test_ldaAbs :
    after { start 0x008000 0x00 false [0xAD, 0xFF, 0xFF] [(0x7EFFFF, 0x34), (0x7F0000, 0x12)] with db := 0x7E }
      (fun t => (t.a, t.pc)) = some (0x1234, 0x8003) := by decide

/-- T70: LDX #$01EF, flag X=0 (as in source scenario 5) -/
theorem test_ldxImm :
    after (start 0x008000 0x24 false [0xA2, 0xEF, 0x01] [])
      (fun t => (t.x, t.pc)) = some (0x01EF, 0x8003) := by decide

/-- T113: TAY, flag X=1: low byte only -/
theorem test_tay :
    after { start 0x008000 0x30 false [0xA8] [] with a := 0x1200, y := 0x0055 }
      (fun t => (t.y, t.fZ, t.pc)) = some (0x0000, true, 0x8001) := by decide

/-- T112: TAX, M=1, flag X=0: all 16 bits of A move -/
theorem test_tax :
    after { start 0x008000 0x20 false [0xAA] [] with a := 0x8034 }
      (fun t => (t.x, t.fN, t.pc)) = some (0x8034, true, 0x8001) := by decide

/-- T157: PLB: 8-bit N and Z -/
theorem test_plb :
    after { start 0x008000 0x30 false [0xAB] [(0x0001FF, 0x80)] with sp := 0x01FE }
      (fun t => (t.sp, t.db, t.fN, t.pc)) = some (0x01FF, 0x80, true, 0x8001) := by decide

/-- T168: BCS not taken -/
theorem test_bcs :
    after (start 0x008000 0x00 false [0xB0, 0x02] [])
      (fun t => t.pc) = some 0x8002 := by decide

/-- T106: CLV -/
theorem test_clv :
    after (start 0x008000 0xC0 false [0xB8] [])
      (fun t => (t.fV, t.pc)) = some (false, 0x8001) := by decide

/-- T122: TSX, flag X=0 -/
theorem test_tsx :
    after { start 0x008000 0x20 false [0xBA] [] with sp := 0x1280 }
      (fun t => (t.x, t.pc)) = some (0x1280, 0x8001) := by decide

/-- T118: TYX, flag X=1 -/
theorem test_tyx :
    after { start 0x008000 0x30 false [0xBB] [] with x := 0x0001, y := 0x007F }
      (fun t => (t.x, t.pc)) = some (0x007F, 0x8001) := by decide

/-- T53: CPY #$10, flag X=1, equal -/
theorem test_cpyImm :
    after { start 0x008000 0x30 false [0xC0, 0x10] [] with y := 0x0010 }
      (fun t => (t.fZ, t.fC, t.pc)) = some (true, true, 0x8002) := by decide

/-- T50: CMP #$1000 with A=$9000, M=0: greater, N from the difference -/
theorem test_cmpImm :
    after { start 0x008000 0x00 false [0xC9, 0x00, 0x10] [] with a := 0x9000 }
      (fun t => (t.fN, t.fC, t.pc)) = some (true, true, 0x8003) := by decide

/-- T108: REP #$30 in emulation mode: M and X stay 1 -/
theorem test_rep :
    after (start 0x008000 0x30 true [0xC2, 0x30] [])
      (fun t => t.pc) = some 0x8002 := by decide

/-- T130: INY, flag X=0: $FFFF wraps to $0000 -/
theorem test_iny :
    after { start 0x008000 0x20 false [0xC8] [] with y := 0xFFFF }
      (fun t => (t.y, t.fZ, t.pc)) = some (0x0000, true, 0x8001) := by decide

/-- T131: DEX, flag X=1: $00 wraps to $FF -/
theorem test_dex :
    after (start 0x008000 0x30 false [0xCA] [])
      (fun t => (t.x, t.fN, t.pc)) = some (0x00FF, true, 0x8001) := by decide

/-- T194: WAI with I=1, then IRQ: wake without service -/
theorem test_wai :
    after (start 0x008000 0x04 false [0xCB, 0xEA] [])
      (fun t => t.pc) = some 0x8001 := by decide

/-- T169: BNE taken, displacement $7F -/
theorem test_bne :
    after (start 0x008000 0x00 false [0xD0, 0x7F] [])
      (fun t => t.pc) = some 0x8081 := by decide

/-- T160: PEI, DP low byte nonzero -/
theorem test_pei :
    after { start 0x008000 0x30 false [0xD4, 0x10] [(0x000011, 0xCD), (0x000012, 0xAB)] with sp := 0x01FF, dp := 0x0001 }
      (fun t => (t.sp, memRead t.mem 0x0001FF, memRead t.mem 0x0001FE, t.pc)) = some (0x01FD, 0xAB, 0xCD, 0x8002) := by decide

/-- T104: CLD -/
theorem test_cld :
    after (start 0x008000 0x08 false [0xD8] [])
      (fun t => (t.fD, t.pc)) = some (false, 0x8001) := by decide

/-- T144: PHX, flag X=0, SP=$0000: native SP wraps modulo $10000 -/
theorem test_phx :
    after { start 0x008000 0x20 false [0xDA] [] with x := 0xBEEF, sp := 0x0000 }
      (fun t => (t.sp, memRead t.mem 0x000000, memRead t.mem 0x00FFFF, t.pc)) = some (0xFFFE, 0xBE, 0xEF, 0x8001) := by decide

/-- T196: STP, NMI ignored, soft reset restarts -/
theorem test_stp :
    after { start 0x008000 0x00 false [0xDB] [] with a := 0x1234, x := 0x5678, sp := 0x1FF0, dp := 0x0300, db := 0x7E }
      (fun t => t.pc) = some 0x8001 := by decide

/-- T52: CPX abs, flag X=0 -/
theorem test_cpxAbs :
    after { start 0x008000 0x20 false [0xEC, 0x00, 0x20] [(0x002000, 0x35), (0x002001, 0x12)] with x := 0x1234 }
      (fun t => (t.fN, t.pc)) = some (true, 0x8003) := by decide

/-- T33: SBC #$00 from $00, C=0, M=1: the missing carry subtracts one -/
theorem test_sbcImm :
    after (start 0x008000 0x30 false [0xE9, 0x00] [])
      (fun t => (t.a, t.fN, t.pc)) = some (0x00FF, true, 0x8002) := by decide

/-- T111: SEP #$10: setting flag X clears the upper bytes of X and Y -/
theorem test_sep :
    after { start 0x008000 0x00 false [0xE2, 0x10] [] with x := 0x1234, y := 0x5678 }
      (fun t => (t.x, t.y, t.fX, t.pc)) = some (0x0034, 0x0078, true, 0x8002) := by decide

/-- T128: INX, flag X=1: $FF wraps to $00 -/
theorem test_inx :
    after { start 0x008000 0x30 false [0xE8] [] with x := 0x00FF }
      (fun t => (t.x, t.fZ, t.pc)) = some (0x0000, true, 0x8001) := by decide

/-- T139: NOP -/
theorem test_nop :
    after (start 0x008000 0x00 false [0xEA] [])
      (fun t => t.pc) = some 0x8001 := by decide

/-- T133: XBA: N and Z from the new low byte -/
theorem test_xba :
    after { start 0x008000 0x30 false [0xEB] [] with a := 0x8001 }
      (fun t => (t.a, t.fN, t.pc)) = some (0x0180, true, 0x8001) := by decide

/-- T171: BEQ taken across the bank end: wraps inside bank K -/
theorem test_beq :
    after (start 0x12FFF8 0x02 false [0xF0, 0x10] [])
      (fun t => t.pc) = some 0x000A := by decide

/-- T159: PEA -/
theorem test_pea :
    after { start 0x008000 0x30 false [0xF4, 0x34, 0x12] [] with sp := 0x01FF }
      (fun t => (t.sp, memRead t.mem 0x0001FF, memRead t.mem 0x0001FE, t.pc)) = some (0x01FD, 0x12, 0x34, 0x8003) := by decide

/-- T105: SED -/
theorem test_sed :
    after (start 0x008000 0x00 false [0xF8] [])
      (fun t => (t.fD, t.pc)) = some (true, 0x8001) := by decide

/-- T153: PLX, flag X=0 -/
theorem test_plx :
    after (start 0x008000 0x20 false [0xFA] [(0x0001FE, 0x34), (0x0001FF, 0x12)])
      (fun t => (t.x, t.sp, t.pc)) = some (0x1234, 0x01FF, 0x8001) := by decide

/-- T136: XCE, E=0 and C=1: to emulation, M=X=1, SP page 1, X and Y truncated -/
theorem test_xce :
    after { start 0x008000 0x01 false [0xFB] [] with x := 0x1234, y := 0x5678, sp := 0x1FF0 }
      (fun t => (t.x, t.y, t.sp, t.fM, t.pc)) = some (0x0034, 0x0078, 0x01F0, true, 0x8001) := by decide

/-- T39: ADC #$40 to $40, D=1, M=1: V from the uncorrected top nibble -/
theorem test_adcImm_decimal_T39 :
    after { start 0x008000 0x38 false [0x69, 0x40] [] with a := 0x0040 }
      (fun t => (t.a, t.fN, t.fV, t.pc)) = some (0x0080, true, true, 0x8002) := by decide

/-- T45: SBC #$0001 from $2000, C=1, D=1, M=0 -/
theorem test_sbcImm_decimal_T45 :
    after { start 0x008000 0x09 false [0xE9, 0x01, 0x00] [] with a := 0x2000 }
      (fun t => (t.a, t.pc)) = some (0x1999, 0x8003) := by decide

/-! ### Witnesses: states and operands that meet the hypotheses of the statements

Each theorem is named after its statement. `native` has M = 1 and flag X = 1, `wide` has both 0, `emulation` E = 1; none has
anything in memory or a host act pending. -/

def native : State := start 0x008000 0x30 false [] []
def wide : State := { start 0x7EFFFE 0x00 false [] [] with a := 0x8001, x := 0xFFFF, y := 0x0001, sp := 0x0000 }
def emulation : State := start 0x00FFFE 0x30 true [] []

/-- An IRQ is pending, and the host calls Nmi() inside the sixth bus cycle from now, the last push of a native entry. -/
def irqThenNmi : State :=
  { native with
    irqWanted := true
    hostTicks := [.quiet, .quiet, .quiet, .quiet, .quiet, ⟨none, true, none⟩]
    mem := [(0x00FFEB, 0xA0), (0x00FFEF, 0xB0)] }

/-- Does `exec` give a next state of which `f` holds? -/
def execGives (i : Instr) (s : State) (f : State → Bool) : Bool :=
  match exec i s with
  | .next t => f t
  | .fault _ => false
  | .refused _ => false

/-- Does `step` give a next state of which `f` holds? -/
def stepGives (s : State) (f : State → Bool) : Bool :=
  match step s with
  | .next t => f t
  | .fault _ => false
  | .refused _ => false

theorem witness_DecodeEncode :
    Instr.wf true true (.ldaImm 0x00FF) = true ∧ Instr.wf false false (.ldxImm 0xFFFF) = true ∧
    Instr.wf true false (.jsl 0xFFFFFF) = true := by decide

theorem witness_EncodeDecode :
    decode true true [0xA9, 0xFF, 0x34] = .ok (.ldaImm 0x00FF, [0x34]) ∧ decode false true [0xA9, 0xFF, 0x34] = .ok (.ldaImm 0x34FF, []) := ⟨rfl, rfl⟩

/-- The operand byte is at $00:0000: PC wraps inside bank K. -/
theorem witness_StepRunsDecoded :
    let s := start 0x00FFFF 0x30 false [0xA9, 0x12] [];
    Quiet s ∧ Running s ∧ interruptDue s = false ∧
    decode s.fM s.fX [codeByte s 0, codeByte s 1, codeByte s 2, codeByte s 3] = .ok (.ldaImm 0x12, [0x00, 0x00]) := ⟨rfl, by decide, by decide, rfl⟩

/-- Without the start poll a pending IRQ that no poll has seen does not interrupt. -/
theorem witness_StepRunsDecoded_no_start_poll :
    let s := { native with stepStartPoll := false, irqWanted := true };
    Quiet s ∧ Running s ∧ interruptDue s = false ∧
    decode s.fM s.fX [codeByte s 0, codeByte s 1, codeByte s 2, codeByte s 3] = .ok (.brk 0x00, [0x00, 0x00]) := ⟨rfl, by decide, by decide, rfl⟩

/-- In the last, the host calls Nmi() in the cycle of the last push. -/
theorem witness_InterruptEntry :
    (let s := { native with nmiWanted := true, irqWanted := true };
      Running s ∧ memWf s.mem = true ∧ interruptDue s = true ∧ nmiAfter s 6 = true) ∧
    (let s := { emulation with irqWanted := true };
      Running s ∧ memWf s.mem = true ∧ interruptDue s = true ∧ nmiAfter s 5 = false) ∧
    (let s := { irqThenNmi with intWanted := true, stepStartPoll := false };
      Running s ∧ memWf s.mem = true ∧ interruptDue s = true ∧ nmiAfter s 5 = false ∧ nmiAfter s 6 = true) := by decide

theorem witness_ParkedGates :
    (let s := { native with stopped := true, waiting := true };
      Quiet s ∧ s.resetWanted = false ∧ s.stopped = true) ∧
    (let s := { native with waiting := true, irqWanted := true, fI := true };
      Quiet s ∧ s.resetWanted = false ∧ s.stopped = false ∧ s.waiting = true ∧ (s.irqWanted || s.nmiWanted) = true) ∧
    (let s := { native with waiting := true };
      Quiet s ∧ s.resetWanted = false ∧ s.stopped = false ∧ s.waiting = true ∧ (s.irqWanted || s.nmiWanted) = false) := by decide

theorem witness_ResetValues :
    Quiet wide ∧ Quiet emulation := by decide

theorem witness_InvKept :
    Inv State.reset ∧ Inv wide ∧ Inv emulation ∧ stepGives State.reset (fun _ => true) = true ∧
    stepGives wide (fun _ => true) = true ∧ stepGives emulation (fun _ => true) = true := by decide

theorem witness_HostKeepsInv :
    Inv State.reset ∧ Inv wide ∧ Inv emulation := by decide

theorem witness_FlagWriters :
    (let s := native;
      EmulationInv s ∧ execGives (.ldaImm 0x80) s (fun t => t.fN != s.fN) = true) ∧
    (let s := native;
      EmulationInv s ∧ execGives (.ldaImm 0x00) s (fun t => t.fZ != s.fZ) = true) ∧
    (let s := native;
      EmulationInv s ∧ execGives (.sep 0x40) s (fun t => t.fV != s.fV) = true) ∧
    (let s := emulation;
      EmulationInv s ∧ execGives (.sec) s (fun t => t.fC != s.fC) = true) ∧
    (let s := native;
      EmulationInv s ∧ execGives (.sed) s (fun t => t.fD != s.fD) = true) ∧
    (let s := native;
      EmulationInv s ∧ execGives (.brk 0x00) s (fun t => t.fI != s.fI) = true) ∧
    (let s := native;
      EmulationInv s ∧ execGives (.rep 0x30) s (fun t => t.fM != s.fM) = true) ∧
    (let s := wide;
      EmulationInv s ∧ execGives (.sep 0x10) s (fun t => t.fX != s.fX) = true) ∧
    (let s := emulation;
      EmulationInv s ∧ execGives (.xce) s (fun t => t.fE != s.fE) = true) ∧
    (let s := emulation;
      EmulationInv s ∧ execGives (.xce) s (fun t => t.fM != s.fM) = true) := by
  refine ⟨?_, ?_, ?_, ?_, ?_, ?_, ?_, ?_, ?_, ?_⟩ <;> decide

theorem witness_RegisterWriters :
    (let s := native;
      Inv s ∧ execGives (.ldaImm 0x80) s (fun t => t.a != s.a) = true) ∧
    (let s := native;
      Inv s ∧ execGives (.tsc) s (fun t => hiByte t.a != hiByte s.a) = true) ∧
    (let s := native;
      Inv s ∧ execGives (.inx) s (fun t => t.x != s.x) = true) ∧
    (let s := wide;
      Inv s ∧ execGives (.sep 0x10) s (fun t => t.x != s.x) = true) ∧
    (let s := native;
      Inv s ∧ execGives (.iny) s (fun t => t.y != s.y) = true) ∧
    (let s := native;
      Inv s ∧ execGives (.pha) s (fun t => t.sp != s.sp) = true) ∧
    (let s := { native with mem := [(0x0001FE, 0x12)] };
      Inv s ∧ execGives (.pld) s (fun t => t.dp != s.dp) = true) ∧
    (let s := native;
      Inv s ∧ execGives (.jmlLong 0x7E0000) s (fun t => t.k != s.k) = true) ∧
    (let s := native;
      Inv s ∧ execGives (.mvn 0x7F 0x00) s (fun t => t.db != s.db) = true) ∧
    native.fM = true := by
  refine ⟨?_, ?_, ?_, ?_, ?_, ?_, ?_, ?_, ?_, ?_⟩ <;> decide

theorem witness_MemoryWriters :
    (let s := wide;
      Quiet s ∧ execGives (.staAbs 0x2000) s (fun t => t.mem != s.mem) = true) ∧
    (let s := native;
      Quiet s ∧ execGives (.incAbs 0x2000) s (fun t => t.mem != s.mem) = true) := by decide

theorem witness_LatchWriters :
    (let s := native;
      Quiet s ∧ execGives (.wai) s (fun t => t.waiting != s.waiting) = true) ∧
    (let s := native;
      Quiet s ∧ execGives (.stp) s (fun t => t.stopped != s.stopped) = true) ∧
    (let s := { native with nmiWanted := true };
      s.nmiWanted = true ∧ execGives (.nop) s (fun t => t.nmiWanted) = true) := by decide

theorem witness_StoresRecorded :
    let s := { start 0x008000 0x30 false [0x8D, 0x00, 0x20] [] with a := 0x0012 };
    memWf s.mem = true ∧ stepGives s (fun t => memRead t.mem 0x002000 != memRead s.mem 0x002000) = true := by decide

theorem witness_FlagByte :
    emulation.fE = true ∧ wide.fE = false := by decide

theorem witness_DirectPageModes_OtherModes :
    Quiet native ∧ Quiet wide ∧ Quiet emulation := by decide

theorem witness_OperandBus :
    (Quiet native ∧ native.fM = true ∧ Quiet wide ∧ wide.fM = false) ∧
    ∀ w t, ∃ n z c, (rmwAsl w t).2 = { t with fN := n, fZ := z, fC := c } := ⟨by decide, fun _ _ => ⟨_, _, _, rfl⟩⟩

theorem witness_LogicResult :
    Quiet native ∧ Quiet wide ∧
    operandOf (.oraImm 0xFF) = some (.imm 0xFF) ∧ mnemonicOf (.oraImm 0xFF) = .ora ∧
    operandOf (.andIdy 0xFF) = some (.mem (.idy 0xFF)) ∧ mnemonicOf (.andIdy 0xFF) = .and ∧
    operandOf (.eorAlx 0xFFFFFF) = some (.mem (.alx 0xFFFFFF)) ∧ mnemonicOf (.eorAlx 0xFFFFFF) = .eor := by decide

theorem witness_AdcResult :
    Quiet native ∧ native.fD = false ∧ Quiet { wide with fD := true } ∧
    operandOf (.adcImm 0xFF) = some (.imm 0xFF) ∧ mnemonicOf (.adcImm 0xFF) = .adc := by decide

theorem witness_SbcResult :
    Quiet native ∧ native.fD = false ∧ Quiet { wide with fD := true } ∧
    operandOf (.sbcSr 0x01) = some (.mem (.sr 0x01)) ∧ mnemonicOf (.sbcSr 0x01) = .sbc := by decide

theorem witness_DecimalMeaning :
    validBcd true 0x99 = true ∧ validBcd true 0x00 = true ∧ validBcd false 0x9999 = true ∧ validBcd false 0x0000 = true ∧
    validBcd true 0x0A = false := by decide

theorem witness_AdcSbcRoundTrip :
    (Quiet native ∧ operandOf (.adcImm 0x01FF) = some (.imm 0x01FF) ∧ operandOf (.sbcImm 0x01FF) = some (.imm 0x01FF) ∧
      mnemonicOf (.adcImm 0x01FF) = .adc ∧ mnemonicOf (.sbcImm 0x01FF) = .sbc ∧ native.fD = false) ∧
    (let s := { wide with fD := true, a := 0x9999, db := 0xFF, mem := [(0x000000, 0x99), (0xFFFFFF, 0x01)] };
      Quiet s ∧ operandOf (.adcAbs 0xFFFF) = some (.mem (.abs 0xFFFF)) ∧
      operandOf (.sbcAbs 0xFFFF) = some (.mem (.abs 0xFFFF)) ∧
      mnemonicOf (.adcAbs 0xFFFF) = .adc ∧ mnemonicOf (.sbcAbs 0xFFFF) = .sbc ∧ validBcd s.fM (accW s) = true ∧
      operandValue (.mem (.abs 0xFFFF)) s.fM s = 0x9901 ∧ validBcd s.fM 0x9901 = true) := by decide

theorem witness_CompareResult :
    Quiet native ∧ Quiet wide ∧
    operandOf (.cmpImm 0xFF) = some (.imm 0xFF) ∧ mnemonicOf (.cmpImm 0xFF) = .cmp ∧
    operandOf (.cpxDp 0x00) = some (.mem (.dp 0x00)) ∧ mnemonicOf (.cpxDp 0x00) = .cpx ∧
    operandOf (.cpyAbs 0xFFFF) = some (.mem (.abs 0xFFFF)) ∧ mnemonicOf (.cpyAbs 0xFFFF) = .cpy := by decide

theorem witness_BitResult :
    Quiet native ∧ Quiet wide ∧
    operandOf (.bitImm 0xFF) = some (.imm 0xFF) ∧ mnemonicOf (.bitImm 0xFF) = .bit ∧
    operandOf (.bitAbx 0xFFFF) = some (.mem (.abx 0xFFFF)) ∧ mnemonicOf (.bitAbx 0xFFFF) = .bit := by decide

theorem witness_LoadResult :
    Quiet native ∧ Quiet wide ∧
    operandOf (.ldaImm 0xFF) = some (.imm 0xFF) ∧ mnemonicOf (.ldaImm 0xFF) = .lda ∧
    operandOf (.ldxDpy 0x00) = some (.mem (.dpy 0x00)) ∧ mnemonicOf (.ldxDpy 0x00) = .ldx ∧
    operandOf (.ldyAbx 0xFFFF) = some (.mem (.abx 0xFFFF)) ∧ mnemonicOf (.ldyAbx 0xFFFF) = .ldy := by decide

theorem witness_StoreResult :
    Quiet native ∧ Quiet wide ∧
    operandOf (.staIsy 0xFF) = some (.mem (.isy 0xFF)) ∧ mnemonicOf (.staIsy 0xFF) = .sta ∧
    operandOf (.stxDpy 0xFF) = some (.mem (.dpy 0xFF)) ∧ mnemonicOf (.stxDpy 0xFF) = .stx ∧
    operandOf (.styAbs 0xFFFF) = some (.mem (.abs 0xFFFF)) ∧ mnemonicOf (.styAbs 0xFFFF) = .sty ∧
    operandOf (.stzAbx 0x0000) = some (.mem (.abx 0x0000)) ∧ mnemonicOf (.stzAbx 0x0000) = .stz ∧
    memWf native.mem = true ∧ memWf wide.mem = true := by decide

theorem witness_RmwMemoryResult :
    Quiet native ∧ Quiet wide ∧
    operandOf (.aslDp 0x00) = some (.mem (.dp 0x00)) ∧ mnemonicOf (.aslDp 0x00) = .asl ∧
    operandOf (.lsrAbs 0xFFFF) = some (.mem (.abs 0xFFFF)) ∧ mnemonicOf (.lsrAbs 0xFFFF) = .lsr ∧
    operandOf (.rolDpx 0xFF) = some (.mem (.dpx 0xFF)) ∧ mnemonicOf (.rolDpx 0xFF) = .rol ∧
    operandOf (.rorAbx 0xFFFF) = some (.mem (.abx 0xFFFF)) ∧ mnemonicOf (.rorAbx 0xFFFF) = .ror ∧
    operandOf (.incDp 0xFF) = some (.mem (.dp 0xFF)) ∧ mnemonicOf (.incDp 0xFF) = .inc ∧
    operandOf (.decDp 0xFF) = some (.mem (.dp 0xFF)) ∧ mnemonicOf (.decDp 0xFF) = .dec ∧
    memWf native.mem = true ∧ memWf wide.mem = true := by decide

theorem witness_TestBitsResult :
    Quiet native ∧ Quiet wide ∧
    operandOf (.tsbDp 0xFF) = some (.mem (.dp 0xFF)) ∧ mnemonicOf (.tsbDp 0xFF) = .tsb ∧
    operandOf (.trbAbs 0xFFFF) = some (.mem (.abs 0xFFFF)) ∧ mnemonicOf (.trbAbs 0xFFFF) = .trb ∧
    memWf native.mem = true ∧ memWf wide.mem = true := by decide

/-- RmwAccumulatorResult, FlagInstructions, IndexTransfers, PointerTransfers, IndexSteps, NoOperations, RepSep, Pushes, Pulls,
PushAddresses, Jumps, Returns, SoftwareInterrupts, BlockMoves and WaitAndStop ask for no more than this, at either
width and in either mode. -/
theorem witness_QuietStatements :
    Quiet native ∧ Quiet wide ∧ Quiet emulation ∧ memWf native.mem = true ∧ memWf wide.mem = true ∧ memWf emulation.mem = true ∧
    native.fM = true ∧ wide.fM = false ∧ native.fX = true ∧ wide.fX = false ∧ emulation.fE = true := by decide

theorem witness_Exchanges :
    (Quiet wide ∧ wide.fC = wide.fE) ∧
    (let s := { wide with fC := true };
      Quiet s ∧ s.fC = true ∧ s.fE = false) ∧
    (Quiet emulation ∧ emulation.fC = false ∧ emulation.fE = true) ∧
    (let s := { emulation with fC := true };
      s.fC = s.fE) := by decide

theorem witness_Branches :
    Quiet native ∧ native.fN = false ∧ native.fV = false ∧ native.fC = false ∧ native.fZ = false ∧
    (let s := start 0x008000 0xFF false [] [];
      Quiet s ∧ s.fN = true ∧ s.fV = true ∧ s.fC = true ∧ s.fZ = true) := by decide

/-- In the first, the bank byte is at the end of the bank: PC wraps. -/
theorem witness_Calls :
    (Quiet wide ∧ memWf wide.mem = true ∧ memRead wide.mem (bankAddr wide.k (wide.pc + 2)).toNat = addrBank 0x009000) ∧
    (let s := start 0x7E8000 0x30 true [0x00, 0x90, 0x7F] [];
      Quiet s ∧ memWf s.mem = true ∧ memRead s.mem (bankAddr s.k (s.pc + 2)).toNat = addrBank 0x7F9000) := by decide

/-- In the second, the push overwrites the operand byte. -/
theorem witness_CallIndexed :
    (Quiet wide ∧ memWf wide.mem = true ∧ memRead wide.mem (bankAddr wide.k (wide.pc + 1)).toNat = hiByte 0x00FF) ∧
    (let s := { start 0x0001FE 0x30 true [0x00, 0x90] [] with sp := 0x01FF };
      Quiet s ∧ memWf s.mem = true ∧ memRead s.mem (bankAddr s.k (s.pc + 1)).toNat = hiByte 0x9000) := by decide

theorem witness_ReturnFromInterrupt :
    Quiet native ∧ EmulationInv native ∧ native.fE = false ∧ Quiet emulation ∧ EmulationInv emulation ∧ emulation.fE = true := by decide

/-- The last byte of a move, and one before it. -/
theorem witness_BlockMoves_last :
    (let s := { native with a := 0x0000, x := 0x00FF };
      Quiet s ∧ memWf s.mem = true ∧ s.a = 0) ∧ Quiet wide ∧ wide.a ≠ 0 := by decide

theorem witness_CallReturn :
    Quiet wide ∧ Inv wide ∧ Quiet emulation ∧ Inv emulation := by decide

theorem witness_ExceptionReturn :
    Quiet wide ∧ Inv wide ∧ wide.fE = false ∧ Quiet emulation ∧ Inv emulation := by decide

/-- A 16-bit store and load across a bank, and an 8-bit load in a state with other registers. -/
theorem witness_StoreThenLoad :
    (let s := wide;
      let t := { s with mem := [(0x00FFFF, 0xFF), (0x010000, 0xFF)] }
      Quiet s ∧ memWf s.mem = true ∧ operandOf (.stxAbs 0xFFFF) = some (.mem (.abs 0xFFFF)) ∧
      operandOf (.ldaAbl 0x00FFFF) = some (.mem (.abl 0x00FFFF)) ∧ mnemonicOf (.stxAbs 0xFFFF) = .stx ∧
      mnemonicOf (.ldaAbl 0x00FFFF) = .lda ∧ execGives (.stxAbs 0xFFFF) s (fun u => u.mem == t.mem) = true ∧
      (address (.abl 0x00FFFF) false t).1 = (address (.abs 0xFFFF) true s).1 ∧ t.fM = s.fX) ∧
    (let s := { native with a := 0x1280, dp := 0x1000 };
      let t := { emulation with y := 0x0010, mem := [(0x001000, 0x80)] }
      Quiet s ∧ memWf s.mem = true ∧ Quiet t ∧ operandOf (.staDp 0x00) = some (.mem (.dp 0x00)) ∧ operandOf (.ldxAby 0x0FF0) = some (.mem (.aby 0x0FF0)) ∧
      mnemonicOf (.staDp 0x00) = .sta ∧ mnemonicOf (.ldxAby 0x0FF0) = .ldx ∧
      execGives (.staDp 0x00) s (fun u => u.mem == t.mem) = true ∧
      (address (.aby 0x0FF0) false t).1.lo = (address (.dp 0x00) true s).1.lo ∧ s.fM = true ∧ t.fX = s.fM) := by decide

theorem witness_InterruptResume :
    (let s := { wide with irqWanted := true };
      Quiet s ∧ Running s ∧ Inv s ∧ s.fE = false ∧ interruptDue s = true) ∧
    (let s := { emulation with k := 0x12, nmiWanted := true, sp := 0x0100 };
      Quiet s ∧ Running s ∧ Inv s ∧ s.fE = true ∧ interruptDue s = true) := by decide

/-! ### Interrupts and decimal arithmetic: the examples of R135, R137 and R323 -/

/-- R323: an Nmi() during the pushes of an entry begun for an IRQ turns it into an NMI entry; the IRQ stays pending. -/
theorem test_nmi_during_irq_entry :
    stepGives irqThenNmi (fun t => t.pc == 0xA000 && !t.nmiWanted && t.irqWanted && t.hostTicks == []) = true := by decide

/-- R135: A = $79 and $01 give $80 with V = 1; R137: $00 less $01 gives $99. -/
theorem test_decimal_valid :
    adcDecimal true 0x79 0x01 false = ⟨0x80, true, false⟩ ∧ sbcDecimal true 0x00 0x01 true = ⟨0x99, false, false⟩ := by decide

/-- R135: A = $0F and $00 give $15 with C = 0; R137: $00 less $0F gives $9B with C = 0. -/
theorem test_decimal_invalid :
    (adcDecimal true 0x0F 0x00 false).value = 0x15 ∧ (adcDecimal true 0x0F 0x00 false).carry = false ∧
    (sbcDecimal true 0x00 0x0F true).value = 0x9B ∧ (sbcDecimal true 0x00 0x0F true).carry = false := by decide

/-! ### The host's views -/

/-- The placed word is the instruction the next step runs, whatever was pending. -/
theorem test_withFetchWord :
    stepGives ((hostNmi (hostReset false State.reset)).withFetchWord 16 0x12A9)
      (fun t => t.a == 0x0012 && t.pc == State.reset.pc + 2) = true := by decide

/-- T7: the step after construction runs the reset sequence. -/
theorem test_powerOn : stepGives powerOn (fun t => debugState t == debugState State.reset && !t.resetWanted) = true := by
  decide

end Sys2Proof.Tests
end

section
/-! Scope (00_scope.md): a step always ends in a next state (R8). -/

namespace Sys2Proof.Machine

/-! ### The gates of the step (R317): what it answers when each is the first one closed -/

theorem step_of_resetWanted {s : State} (hreset : s.resetWanted = true) :
    step s = .next (resetSequence { s with trace := [] }) := by
  simp [step, runOpcode, hreset]

theorem step_of_stopped {s : State} (hreset : s.resetWanted = false) (hstopped : s.stopped = true) :
    step s = .next (idleWait { s with trace := [] }) := by
  simp [step, runOpcode, hreset, hstopped]

theorem step_of_waiting {s : State} (hreset : s.resetWanted = false) (hstopped : s.stopped = false)
    (hwaiting : s.waiting = true) : step s = .next (waitingTick { s with trace := [] }) := by
  simp [step, runOpcode, hreset, hstopped, hwaiting]

theorem step_of_running {s : State} (h : Running s) :
    step s = serviceOrRun (startPoll { s with trace := [] }) := by
  obtain ⟨hreset, hstopped, hwaiting⟩ := h
  simp [step, runOpcode, hreset, hstopped, hwaiting]

/-! ### No instruction faults or is refused -/

/-- Each of the 256 arms of `exec` answers a next state, whatever the state: none is left without a meaning. -/
theorem exec_next (i : Instr) (s : State) : ∃ t, exec i s = .next t := by
  cases i <;> exact ⟨_, rfl⟩

/-- On the normal path (R321), the interrupt entry and the instruction both end in a next state. -/
theorem serviceOrRun_next (s : State) : ∃ t, serviceOrRun s = .next t := by
  unfold serviceOrRun
  split
  · exact ⟨_, rfl⟩
  · exact exec_next _ _

/-- Settles O6, by the first closed gate; with no gate closed, by `serviceOrRun_next`. -/
theorem stepCompletes : Obligations.StepCompletes := by
  intro s
  cases hreset : s.resetWanted with
  | true => exact ⟨_, step_of_resetWanted hreset⟩
  | false =>
    cases hstopped : s.stopped with
    | true => exact ⟨_, step_of_stopped hreset hstopped⟩
    | false =>
      cases hwaiting : s.waiting with
      | true => exact ⟨_, step_of_waiting hreset hstopped hwaiting⟩
      | false =>
        rw [step_of_running ⟨hreset, hstopped, hwaiting⟩]
        exact serviceOrRun_next _

end Sys2Proof.Machine
end

section
/-! What an operation can change: one relation, `Changes w s t`, that says which of the fields the writer lists speak
of (10_state.md R20 to R36, R47) may differ between two states, and that the rest of what every instruction keeps is
kept: the invariants of R37 and R38, the canonical memory and the request latches. It composes, so that an
instruction's lemma is put together from those of the shared operations. -/

namespace Sys2Proof.Machine

/-! ### The fields -/

/-- The fields of the state that only named instructions write. `heldB` is the upper byte of A as the state holds it
apart from the accumulator (`heldB`). -/
inductive Field where
  | a | heldB | x | y | sp | dp | k | db | fN | fV | fM | fX | fD | fI | fZ | fC | fE
  | resetWanted | waiting | stopped | mem | stepStartPoll
deriving DecidableEq

/-- B, the upper byte of A, where M = 1 sets it apart (R20). -/
def heldB (s : State) : Option Byte := if s.fM then some (hiByte s.a) else none

/-- The field is in `t` as it is in `s`. -/
def Field.Same : Field → State → State → Prop
  | .a, s, t => t.a = s.a
  | .heldB, s, t => Machine.heldB t = Machine.heldB s
  | .x, s, t => t.x = s.x
  | .y, s, t => t.y = s.y
  | .sp, s, t => t.sp = s.sp
  | .dp, s, t => t.dp = s.dp
  | .k, s, t => t.k = s.k
  | .db, s, t => t.db = s.db
  | .fN, s, t => t.fN = s.fN
  | .fV, s, t => t.fV = s.fV
  | .fM, s, t => t.fM = s.fM
  | .fX, s, t => t.fX = s.fX
  | .fD, s, t => t.fD = s.fD
  | .fI, s, t => t.fI = s.fI
  | .fZ, s, t => t.fZ = s.fZ
  | .fC, s, t => t.fC = s.fC
  | .fE, s, t => t.fE = s.fE
  | .resetWanted, s, t => t.resetWanted = s.resetWanted
  | .waiting, s, t => t.waiting = s.waiting
  | .stopped, s, t => t.stopped = s.stopped
  | .mem, s, t => t.mem = s.mem
  | .stepStartPoll, s, t => t.stepStartPoll = s.stepStartPoll

theorem Field.Same.refl (f : Field) (s : State) : f.Same s s := by
  cases f <;> rfl

theorem Field.Same.trans {f : Field} {s t u : State} (h : f.Same s t) (g : f.Same t u) : f.Same s u := by
  cases f <;> exact Eq.trans g h

/-- Where M = 1 and B is held as it was, M is still 1 and the upper byte of A is the old one. -/
theorem hiByte_a_of_heldB {s t : State} (h : Field.heldB.Same s t) (hM : s.fM = true) : hiByte t.a = hiByte s.a := by
  have e : heldB t = heldB s := h
  unfold heldB at e
  cases hM' : t.fM <;> simp_all

/-! ### The relation -/

/-- `t` is `s` but for the fields in `w` (and for PC, the latches of the last poll and of the requests, the host's
coming acts and the record of events); no NMI is lost, a quiet host leaves the request latches alone, and each of the
three parts of a legal state is kept. -/
structure Changes (w : List Field) (s t : State) : Prop where
  same : ∀ f, f ∉ w → f.Same s t
  nmi : s.nmiWanted = true → t.nmiWanted = true
  quiet : Quiet s → Quiet t ∧ t.nmiWanted = s.nmiWanted ∧ t.irqWanted = s.irqWanted
  emulation : EmulationInv s → EmulationInv t
  index : IndexInv s → IndexInv t
  memory : memWf s.mem = true → memWf t.mem = true

theorem Changes.refl (w : List Field) (s : State) : Changes w s s where
  same f _ := Field.Same.refl f s
  nmi := id
  quiet h := ⟨h, rfl, rfl⟩
  emulation := id
  index := id
  memory := id

theorem Changes.trans {w v : List Field} {s t u : State} (h : Changes w s t) (g : Changes v t u) :
    Changes (w ++ v) s u where
  same f hf := (h.same f fun hw => hf (List.mem_append_left v hw)).trans
    (g.same f fun hv => hf (List.mem_append_right w hv))
  nmi hs := g.nmi (h.nmi hs)
  quiet hs := by
    obtain ⟨ht, hnmi, hirq⟩ := h.quiet hs
    obtain ⟨hu, gnmi, girq⟩ := g.quiet ht
    exact ⟨hu, gnmi.trans hnmi, girq.trans hirq⟩
  emulation hs := g.emulation (h.emulation hs)
  index hs := g.index (h.index hs)
  memory hs := g.memory (h.memory hs)

theorem Changes.mono {w v : List Field} {s t : State} (h : Changes w s t) (hwv : w ⊆ v) : Changes v s t :=
  { h with same := fun f hf => h.same f fun hw => hf (hwv hw) }

/-- A legal state stays legal. -/
theorem Changes.inv {w : List Field} {s t : State} (h : Changes w s t) (hs : Inv s) : Inv t := by
  obtain ⟨hemu, hidx, hmem⟩ := hs
  exact ⟨h.emulation hemu, h.index hidx, h.memory hmem⟩

/-! ### Updates of the state that are no bus cycle -/

/-- An update leaves the request latches and the host's coming acts alone. -/
def SameRequests (s t : State) : Prop :=
  t.nmiWanted = s.nmiWanted ∧ t.irqWanted = s.irqWanted ∧ t.hostTicks = s.hostTicks

/-- An update that keeps the three parts of a legal state for reasons of its own. Of a state written out, each field is
the old one by definition or is named in `w`. -/
theorem Changes.of_update {w : List Field} {s t : State}
    (emulation : EmulationInv s → EmulationInv t) (index : IndexInv s → IndexInv t)
    (memory : memWf s.mem = true → memWf t.mem = true)
    (same : ∀ f, f ∉ w → f.Same s t := by intro f hf; cases f <;> first | rfl | exact absurd (by decide) hf)
    (requests : SameRequests s t := by exact ⟨rfl, rfl, rfl⟩) : Changes w s t := by
  obtain ⟨hnmi, hirq, hticks⟩ := requests
  exact ⟨same, hnmi.trans, fun h => ⟨hticks.trans h, hnmi, hirq⟩, emulation, index, memory⟩

/-- An update of fields of which no part of a legal state speaks. -/
theorem Changes.of_plain {w : List Field} {s t : State}
    (same : ∀ f, f ∉ w → f.Same s t := by intro f hf; cases f <;> first | rfl | exact absurd (by decide) hf)
    (requests : SameRequests s t := by exact ⟨rfl, rfl, rfl⟩)
    (plain : ∀ f ∈ [Field.fE, .fM, .fX, .sp, .x, .y, .mem], f ∉ w := by decide) : Changes w s t := by
  have hE : t.fE = s.fE := same .fE (plain _ (by decide))
  have hM : t.fM = s.fM := same .fM (plain _ (by decide))
  have hX : t.fX = s.fX := same .fX (plain _ (by decide))
  have hsp : t.sp = s.sp := same .sp (plain _ (by decide))
  have hx : t.x = s.x := same .x (plain _ (by decide))
  have hy : t.y = s.y := same .y (plain _ (by decide))
  have hmem : t.mem = s.mem := same .mem (plain _ (by decide))
  refine .of_update ?_ ?_ ?_ same requests
  · unfold EmulationInv
    rw [hE, hM, hX, hsp]
    exact id
  · unfold IndexInv
    rw [hX, hx, hy]
    exact id
  · rw [hmem]
    exact id

theorem changes_pc (v : Word) (s : State) : Changes [] s { s with pc := v } := .of_plain
theorem changes_a (v : Word) (s : State) : Changes [.a, .heldB] s { s with a := v } := .of_plain
theorem changes_dp (v : Word) (s : State) : Changes [.dp] s { s with dp := v } := .of_plain
theorem changes_k (b : Byte) (s : State) : Changes [.k] s { s with k := b } := .of_plain
theorem changes_db (b : Byte) (s : State) : Changes [.db] s { s with db := b } := .of_plain
theorem changes_fV (v : Bool) (s : State) : Changes [.fV] s { s with fV := v } := .of_plain
theorem changes_fD (v : Bool) (s : State) : Changes [.fD] s { s with fD := v } := .of_plain
theorem changes_fI (v : Bool) (s : State) : Changes [.fI] s { s with fI := v } := .of_plain
theorem changes_fZ (v : Bool) (s : State) : Changes [.fZ] s { s with fZ := v } := .of_plain
theorem changes_fC (v : Bool) (s : State) : Changes [.fC] s { s with fC := v } := .of_plain
theorem changes_waiting (v : Bool) (s : State) : Changes [.waiting] s { s with waiting := v } := .of_plain
theorem changes_stopped (v : Bool) (s : State) : Changes [.stopped] s { s with stopped := v } := .of_plain

/-- X takes a value within the width of flag X (R38). -/
theorem changes_x {v : Word} {s : State} (hv : s.fX = true → hiByte v = 0x00#8) : Changes [.x] s { s with x := v } :=
  .of_update id (fun h hX => ⟨hv hX, (h hX).2⟩) id

/-- Y takes a value within the width of flag X (R38). -/
theorem changes_y {v : Word} {s : State} (hv : s.fX = true → hiByte v = 0x00#8) : Changes [.y] s { s with y := v } :=
  .of_update id (fun h hX => ⟨(h hX).1, hv hX⟩) id

/-- SP takes a value in the page its mode asks for (R37). -/
theorem changes_sp {v : Word} {s : State} (hv : s.fE = true → hiByte v = 0x01#8) : Changes [.sp] s { s with sp := v } :=
  .of_update (fun h hE => ⟨(h hE).1, (h hE).2.1, hv hE⟩) id id

/-- Memory takes a byte at a bus address (R60). -/
theorem changes_mem (r : Addr) (b : Byte) (s : State) :
    Changes [.mem] s { s with mem := memWrite s.mem r.toNat b } :=
  .of_update id id fun h => memWf_memWrite_addr h r b

/-! ### Values within a width -/

theorem hiByte_maskW {w8 : Bool} (h : w8 = true) (v : Word) : hiByte (maskW w8 v) = 0x00#8 := by
  subst h
  exact hiByte_maskW_true v

theorem hiByte_coerceSp_of {e : Bool} (h : e = true) (v : Word) : hiByte (coerceSp e v) = 0x01#8 := by
  subst h
  exact hiByte_coerceSp v

/-- A value whose upper byte is zero where the width is 8 bits is within the width. -/
theorem maskW_of_hiByte {w8 : Bool} {v : Word} (h : w8 = true → hiByte v = 0x00#8) : maskW w8 v = v := by
  cases w8
  · rfl
  · rw [maskW_true, zextByte_loByte (h rfl)]

/-! ### Registers and flags written together -/

theorem setZN_changes (v : Word) (w8 : Bool) (s : State) : Changes [.fZ, .fN] s (setZN v w8 s) := .of_plain

/-- B is held where M = 1 (R20). -/
theorem heldB_setAccW (v : Word) (s : State) : heldB (setAccW v s) = heldB s := by
  unfold heldB
  cases hM : s.fM
  · simp [hM]
  · simp [hM, setAccW, mergeAcc, hiByte_mkWord]

theorem setAccW_changes (v : Word) (s : State) : Changes [.a] s (setAccW v s) :=
  .of_plain (same := by
    intro f hf
    cases f
    case a => exact absurd (by decide) hf
    case heldB => exact heldB_setAccW v s
    all_goals rfl)

theorem putAccW_changes (v : Word) (s : State) : Changes [.a, .fZ, .fN] s (putAccW v s) :=
  (setAccW_changes v s).trans (setZN_changes _ _ _)

theorem putAcc16_changes (v : Word) (s : State) : Changes [.a, .heldB, .fZ, .fN] s (putAcc16 v s) :=
  (changes_a v s).trans (setZN_changes _ _ _)

theorem putX_changes (v : Word) (s : State) : Changes [.x, .fZ, .fN] s (putX v s) :=
  (changes_x fun hX => hiByte_maskW hX v).trans (setZN_changes _ _ _)

theorem putY_changes (v : Word) (s : State) : Changes [.y, .fZ, .fN] s (putY v s) :=
  (changes_y fun hX => hiByte_maskW hX v).trans (setZN_changes _ _ _)

theorem putDp_changes (v : Word) (s : State) : Changes [.dp, .fZ, .fN] s (putDp v s) :=
  (changes_dp v s).trans (setZN_changes _ _ _)

theorem putDb_changes (b : Byte) (s : State) : Changes [.db, .fZ, .fN] s (putDb b s) :=
  (changes_db b s).trans (setZN_changes _ _ _)

theorem putSp_changes (v : Word) (s : State) : Changes [.sp] s (putSp v s) :=
  changes_sp fun hE => hiByte_coerceSp_of hE v

theorem putSum_changes (r : SumResult) (s : State) : Changes [.fV, .fC, .a, .fZ, .fN] s (putSum r s) := by
  have flags : Changes [.fV, .fC] s { s with fV := r.overflow, fC := r.carry } := .of_plain
  exact (flags.trans (setAccW_changes _ _)).trans (setZN_changes _ _ _)

theorem compareFlags_changes (w8 : Bool) (left v : Word) (s : State) :
    Changes [.fC, .fZ, .fN] s (compareFlags w8 left v s) :=
  (changes_fC _ s).trans (setZN_changes _ _ _)

/-- The fields SetFlags loads or, in emulation mode, forces (R41). -/
def flagByteFields : List Field :=
  [.fN, .fV, .fM, .fX, .fD, .fI, .fZ, .fC, .heldB, .sp, .x, .y]

/-- SetFlags makes R37 hold of any state (R41). -/
theorem setFlags_emulation (b : Byte) (s : State) : EmulationInv (setFlags b s) := by
  intro hE
  have hE' : s.fE = true := hE
  simp [hE', hiByte_pageOne]

/-- SetFlags makes R38 hold of any state (R41). -/
theorem setFlags_index (b : Byte) (s : State) : IndexInv (setFlags b s) :=
  fun hX => ⟨hiByte_maskW hX s.x, hiByte_maskW hX s.y⟩

theorem setFlags_changes (b : Byte) (s : State) : Changes flagByteFields s (setFlags b s) :=
  .of_update (fun _ => setFlags_emulation b s) (fun _ => setFlags_index b s) id

theorem enterEmulation_changes (s : State) :
    Changes [.fE, .fM, .fX, .heldB, .sp, .x, .y] s (enterEmulation s) :=
  .of_update (fun _ _ => ⟨rfl, rfl, hiByte_pageOne s.sp⟩)
    (fun _ _ => ⟨hiByte_maskW_true s.x, hiByte_maskW_true s.y⟩) id

/-- In native mode with flag X = 0 neither R37 nor R38 asks for anything. -/
theorem enterNative_changes (s : State) : Changes [.fE, .fM, .fX, .heldB] s (enterNative s) :=
  .of_update (fun _ hE => nomatch hE) (fun _ hX => nomatch hX) id

theorem exchangeCE_changes (s : State) :
    Changes [.fC, .fE, .fM, .fX, .heldB, .sp, .x, .y] s (exchangeCE s) := by
  have hc := changes_fC s.fE s
  unfold exchangeCE
  dsimp only
  split
  · exact hc.mono (by decide)
  · split
    · exact hc.trans (enterEmulation_changes _)
    · exact (hc.trans (enterNative_changes _)).mono (by decide)

/-! ### Bus cycles, polls, reads and fetches: they change none of the fields -/

theorem cycle_changes (e : Event) (s : State) : Changes [] s (cycle e s) where
  same f _ := by cases f <;> rfl
  nmi h := by simp [h]
  quiet h := by rw [cycle_quiet h]; exact ⟨h, rfl, rfl⟩
  emulation := id
  index := id
  memory := id

theorem idle_changes (s : State) : Changes [] s (idle s) := cycle_changes _ s

theorem idleWait_changes (s : State) : Changes [] s (idleWait s) := cycle_changes _ s

theorem busRead_changes (r : Addr) (s : State) : Changes [] s (busRead r s).2 := cycle_changes _ s

theorem poll_changes (s : State) : Changes [] s (poll s) := .of_plain

theorem pollIf_changes (p : Bool) (s : State) : Changes [] s (pollIf p s) := by
  cases p
  · exact .refl [] s
  · exact poll_changes s

theorem fetchByte_changes (b : Byte) (s : State) : Changes [] s (fetchByte b s) :=
  (cycle_changes _ s).trans (changes_pc _ _)

theorem fetchWord_changes (w : Word) (p : Bool) (s : State) : Changes [] s (fetchWord w p s) :=
  ((fetchByte_changes _ s).trans (pollIf_changes p _)).trans (fetchByte_changes _ _)

theorem readWord_changes (lo hi : Addr) (p : Bool) (s : State) : Changes [] s (readWord lo hi p s).2 :=
  ((busRead_changes lo s).trans (pollIf_changes p _)).trans (busRead_changes hi _)

theorem loadVector_changes (v : Word) (p : Bool) (s : State) : Changes [] s (loadVector v p s) :=
  (readWord_changes _ _ p s).trans (changes_pc _ _)

theorem adrImp_changes (s : State) : Changes [] s (adrImp s) := by
  unfold adrImp
  dsimp only
  split
  · exact (poll_changes s).trans (busRead_changes _ _)
  · exact (poll_changes s).trans (idle_changes _)

theorem dpIdle_changes (s : State) : Changes [] s (dpIdle s) := by
  unfold dpIdle
  split
  · exact .refl [] s
  · exact idle_changes s

theorem penalty_changes (base index : Word) (write : Bool) (s : State) :
    Changes [] s (penalty base index write s) := by
  unfold penalty
  split
  · exact idle_changes s
  · exact .refl [] s

theorem fetchDp_changes (d : Byte) (s : State) : Changes [] s (fetchDp d s) :=
  (fetchByte_changes d s).trans (dpIdle_changes _)

theorem fetchDpIdle_changes (d : Byte) (s : State) : Changes [] s (idle (fetchDp d s)) :=
  (fetchDp_changes d s).trans (idle_changes _)

theorem readPointer_changes (off : Word) (s : State) : Changes [] s (readPointer off s).2 :=
  readWord_changes _ _ _ s

theorem readLongPointer_changes (off : Word) (s : State) : Changes [] s (readLongPointer off s).2 :=
  (readPointer_changes off s).trans (busRead_changes _ _)

theorem fetchLong_changes (a : Addr) (s : State) :
    Changes [] s (fetchByte (addrBank a) (fetchWord (addrOffset a) false s)) :=
  (fetchWord_changes _ _ s).trans (fetchByte_changes _ _)

/-- A calculator changes none of the fields (R110). -/
theorem address_changes (o : MemOperand) (write : Bool) (s : State) : Changes [] s (address o write s).2 := by
  cases o with
  | dp d => exact fetchDp_changes d s
  | dpx d | dpy d => exact fetchDpIdle_changes d s
  | idp d => exact (fetchDp_changes d s).trans (readPointer_changes _ _)
  | idx d => exact (fetchDpIdle_changes d s).trans (readPointer_changes _ _)
  | idy d => exact ((fetchDp_changes d s).trans (readPointer_changes _ _)).trans (penalty_changes _ _ _ _)
  | idl d | ily d => exact (fetchDp_changes d s).trans (readLongPointer_changes _ _)
  | sr d => exact (fetchByte_changes d s).trans (idle_changes _)
  | isy d =>
    exact (((fetchByte_changes d s).trans (idle_changes _)).trans (readPointer_changes _ _)).trans (idle_changes _)
  | abs a => exact fetchWord_changes a false s
  | abx a | aby a => exact (fetchWord_changes a false s).trans (penalty_changes _ _ _ _)
  | abl a | alx a => exact fetchLong_changes a s

theorem readOperand_changes (p : AddrPair) (w8 : Bool) (s : State) : Changes [] s (readOperand p w8 s).2 := by
  cases w8
  · exact readWord_changes p.lo p.hi true s
  · exact (poll_changes s).trans (busRead_changes p.lo _)

theorem readImm_changes (c : Word) (w8 : Bool) (s : State) : Changes [] s (readImm c w8 s).2 := by
  cases w8
  · exact fetchWord_changes c true s
  · exact (poll_changes s).trans (fetchByte_changes _ _)

theorem readData_changes (o : Operand) (w8 : Bool) (s : State) : Changes [] s (readData o w8 s).2 := by
  cases o with
  | imm c => exact readImm_changes c w8 s
  | mem m => exact (address_changes m false s).trans (readOperand_changes _ w8 _)

/-- An 8-bit operand has no upper byte (R130), whatever the host answers. -/
theorem hiByte_readData (o : Operand) (s : State) : hiByte (readData o true s).1 = 0x00#8 := by
  cases o <;> exact hiByte_zextByte _

/-! ### Writes, the stack and exceptions -/

theorem busWrite_changes (r : Addr) (b : Byte) (s : State) : Changes [.mem] s (busWrite r b s) :=
  (changes_mem r b s).trans (cycle_changes _ _)

theorem writeWord_changes (lo hi : Addr) (v : Word) (rev p : Bool) (s : State) :
    Changes [.mem, .mem] s (writeWord lo hi v rev p s) := by
  cases rev
  · exact ((busWrite_changes lo _ s).trans (pollIf_changes p _)).trans (busWrite_changes hi _ _)
  · exact ((busWrite_changes hi _ s).trans (pollIf_changes p _)).trans (busWrite_changes lo _ _)

theorem writeOperand_changes (p : AddrPair) (v : Word) (w8 : Bool) (s : State) :
    Changes [.mem] s (writeOperand p v w8 s) := by
  cases w8
  · exact (writeWord_changes p.lo p.hi v false true s).mono (by decide)
  · exact (poll_changes s).trans (busWrite_changes p.lo _ _)

theorem storeData_changes (o : MemOperand) (v : Word) (w8 : Bool) (s : State) :
    Changes [.mem] s (storeData o v w8 s) :=
  (address_changes o true s).trans (writeOperand_changes _ v w8 _)

theorem pushByte_changes (b : Byte) (s : State) : Changes [.mem, .sp] s (pushByte b s) :=
  (busWrite_changes _ b s).trans (changes_sp fun hE => hiByte_coerceSp_of hE _)

theorem pushWord_changes (v : Word) (p : Bool) (s : State) : Changes [.mem, .sp] s (pushWord v p s) :=
  (((pushByte_changes _ s).trans (pollIf_changes p _)).trans (pushByte_changes _ _)).mono (by decide)

theorem pullByte_changes (s : State) : Changes [.sp] s (pullByte s).2 :=
  (changes_sp fun hE => hiByte_coerceSp_of hE _).trans (busRead_changes _ _)

theorem pullWord_changes (p : Bool) (s : State) : Changes [.sp] s (pullWord p s).2 :=
  (((pullByte_changes s).trans (pollIf_changes p _)).trans (pullByte_changes _)).mono (by decide)

/-- Taking an exception: the frame, then I, D and K (R324). -/
theorem enterHandler_changes (flags : Byte) (s : State) :
    Changes [.mem, .sp, .fI, .fD, .k] s (enterHandler flags s) := by
  have bank : Changes [.mem, .sp] s (if s.fE then s else pushByte s.k s) := by
    split
    · exact .refl _ s
    · exact pushByte_changes s.k s
  have masks (t : State) : Changes [.fI, .fD, .k] t { t with fI := true, fD := false, k := 0x00#8 } := .of_plain
  exact (((bank.trans (pushWord_changes _ false _)).trans (pushByte_changes flags _)).trans (masks _)).mono (by decide)

end Sys2Proof.Machine
end

section
/-! What each instruction can change: first the meanings the opcodes share, then one theorem over all of `exec`. -/

namespace Sys2Proof.Machine

/-! ### Reads and arithmetic (41_alu_read.md) -/

theorem aluLogic_changes (f : Word → Word → Word) (o : Operand) (s : State) :
    Changes [.a, .fZ, .fN] s (aluLogic f o s) :=
  ((readData_changes o s.fM s).trans (setAccW_changes _ _)).trans (setZN_changes _ _ _)

theorem aluAdc_changes (o : Operand) (s : State) : Changes [.fV, .fC, .a, .fZ, .fN] s (aluAdc o s) :=
  (readData_changes o s.fM s).trans (putSum_changes _ _)

theorem aluSbc_changes (o : Operand) (s : State) : Changes [.fV, .fC, .a, .fZ, .fN] s (aluSbc o s) :=
  (readData_changes o s.fM s).trans (putSum_changes _ _)

theorem aluCmp_changes (o : Operand) (s : State) : Changes [.fC, .fZ, .fN] s (aluCmp o s) :=
  (readData_changes o s.fM s).trans (compareFlags_changes _ _ _ _)

theorem aluCpx_changes (o : Operand) (s : State) : Changes [.fC, .fZ, .fN] s (aluCpx o s) :=
  (readData_changes o s.fX s).trans (compareFlags_changes _ _ _ _)

theorem aluCpy_changes (o : Operand) (s : State) : Changes [.fC, .fZ, .fN] s (aluCpy o s) :=
  (readData_changes o s.fX s).trans (compareFlags_changes _ _ _ _)

theorem aluBit_changes (o : MemOperand) (s : State) : Changes [.fZ, .fN, .fV] s (aluBit o s) :=
  (readData_changes (.mem o) s.fM s).trans .of_plain

theorem aluBitImm_changes (c : Word) (s : State) : Changes [.fZ] s (aluBitImm c s) :=
  (readData_changes (.imm c) s.fM s).trans (changes_fZ _ _)

theorem aluLda_changes (o : Operand) (s : State) : Changes [.a, .fZ, .fN] s (aluLda o s) :=
  ((readData_changes o s.fM s).trans (setAccW_changes _ _)).trans (setZN_changes _ _ _)

/-- An operand read at the width of flag X fits an index register after the read (R38). -/
theorem hiByte_readIndex (o : Operand) (s : State) (h : (readData o s.fX s).2.fX = true) :
    hiByte (readData o s.fX s).1 = 0x00#8 := by
  have hX : (readData o s.fX s).2.fX = s.fX := (readData_changes o s.fX s).same .fX (by decide)
  rw [hX] at h
  rw [h]
  exact hiByte_readData o s

theorem aluLdx_changes (o : Operand) (s : State) : Changes [.x, .fZ, .fN] s (aluLdx o s) :=
  ((readData_changes o s.fX s).trans (changes_x (hiByte_readIndex o s))).trans (setZN_changes _ _ _)

theorem aluLdy_changes (o : Operand) (s : State) : Changes [.y, .fZ, .fN] s (aluLdy o s) :=
  ((readData_changes o s.fX s).trans (changes_y (hiByte_readIndex o s))).trans (setZN_changes _ _ _)

/-! ### Read-modify-write (42_store_rmw.md) -/

theorem rmwAsl_changes (v : Word) (s : State) : Changes [.fC, .fZ, .fN] s (rmwAsl v s).2 := .of_plain
theorem rmwLsr_changes (v : Word) (s : State) : Changes [.fC, .fZ, .fN] s (rmwLsr v s).2 := .of_plain
theorem rmwRol_changes (v : Word) (s : State) : Changes [.fC, .fZ, .fN] s (rmwRol v s).2 := .of_plain
theorem rmwRor_changes (v : Word) (s : State) : Changes [.fC, .fZ, .fN] s (rmwRor v s).2 := .of_plain
theorem rmwInc_changes (v : Word) (s : State) : Changes [.fZ, .fN] s (rmwInc v s).2 := .of_plain
theorem rmwDec_changes (v : Word) (s : State) : Changes [.fZ, .fN] s (rmwDec v s).2 := .of_plain
theorem rmwTsb_changes (v : Word) (s : State) : Changes [.fZ] s (rmwTsb v s).2 := .of_plain
theorem rmwTrb_changes (v : Word) (s : State) : Changes [.fZ] s (rmwTrb v s).2 := .of_plain

/-- The read, the function and the write at the operand's addresses (R155). -/
theorem rmwAt_changes {f : Word → State → Word × State} {w : List Field}
    (hf : ∀ v s, Changes w s (f v s).2) (p : AddrPair) (s : State) : Changes (w ++ [.mem, .mem]) s (rmwAt p f s) := by
  unfold rmwAt
  split
  · exact (((((busRead_changes p.lo s).trans (idle_changes _)).trans (hf _ _)).trans (poll_changes _)).trans
      (busWrite_changes p.lo _ _)).mono (by simp)
  · exact (((readWord_changes p.lo p.hi false s).trans (idle_changes _)).trans (hf _ _)).trans
      (writeWord_changes p.lo p.hi _ true true _)

/-- A memory form changes memory and what its function changes. -/
theorem rmwMem_changes {f : Word → State → Word × State} {w : List Field}
    (hf : ∀ v s, Changes w s (f v s).2) (o : MemOperand) (s : State) : Changes (w ++ [.mem, .mem]) s (rmwMem f o s) :=
  (address_changes o true s).trans (rmwAt_changes hf _ _)

/-- An accumulator form changes A and what its function changes. -/
theorem rmwAcc_changes {f : Word → State → Word × State} {w : List Field}
    (hf : ∀ v s, Changes w s (f v s).2) (s : State) : Changes (w ++ [.a]) s (rmwAcc f s) :=
  ((adrImp_changes s).trans (hf _ _)).trans (setAccW_changes _ _)

/-! ### Flags, transfers and exchanges (43_register_flag.md) -/

/-- The template of the instructions of tag Imp (R180). -/
theorem implied_changes {w : List Field} {s t : State} (h : Changes w (adrImp s) t) : Changes w s t :=
  (adrImp_changes s).trans h

theorem swapAccBytes_changes (s : State) : Changes [.a, .heldB, .fZ, .fN] s (swapAccBytes s) :=
  (((((changes_a _ s).trans (setZN_changes _ true _)).trans (idle_changes _)).trans (poll_changes _)).trans
    (idle_changes _))

theorem changeFlags_changes (f : Byte → Byte) (mask : Byte) (s : State) :
    Changes flagByteFields s (changeFlags f mask s) :=
  (((fetchByte_changes mask s).trans (poll_changes _)).trans (setFlags_changes _ _)).trans (idle_changes _)

/-! ### The stack (44_stack.md) -/

theorem push8_changes (b : Byte) (s : State) : Changes [.mem, .sp] s (push8 b s) :=
  ((idle_changes s).trans (poll_changes _)).trans (pushByte_changes b _)

theorem push16_changes (v : Word) (s : State) : Changes [.mem, .sp] s (push16 v s) :=
  (idle_changes s).trans (pushWord_changes v true _)

theorem pushSized_changes (w8 : Bool) (v : Word) (s : State) : Changes [.mem, .sp] s (pushSized w8 v s) := by
  cases w8
  · exact push16_changes v s
  · exact push8_changes (loByte v) s

theorem idle_idle_changes (s : State) : Changes [] s (idle (idle s)) := (idle_changes s).trans (idle_changes _)

theorem pull8_changes (s : State) : Changes [.sp] s (pull8 s).2 :=
  ((idle_idle_changes s).trans (poll_changes _)).trans (pullByte_changes _)

theorem pull16_changes (s : State) : Changes [.sp] s (pull16 s).2 :=
  (idle_idle_changes s).trans (pullWord_changes true _)

theorem pullSized_changes (w8 : Bool) (s : State) : Changes [.sp] s (pullSized w8 s).2 := by
  cases w8
  · exact pull16_changes s
  · exact pull8_changes s

theorem pushConst_changes (c : Word) (s : State) : Changes [.mem, .sp] s (pushWord c true (fetchWord c false s)) :=
  (fetchWord_changes c false s).trans (pushWord_changes c true _)

theorem pushIndirect_changes (d : Byte) (s : State) : Changes [.mem, .sp] s (pushIndirect d s) :=
  ((address_changes (.dp d) false s).trans (readWord_changes _ _ false _)).trans (pushWord_changes _ true _)

theorem pushRelative_changes (disp : Word) (s : State) : Changes [.mem, .sp] s (pushRelative disp s) :=
  ((fetchWord_changes disp false s).trans (idle_changes _)).trans (pushWord_changes _ true _)

/-! ### Control flow (45_control_flow.md) -/

theorem branchIf_changes (cond : Bool) (disp : Byte) (s : State) : Changes [] s (branchIf cond disp s) := by
  cases cond
  · exact (poll_changes s).trans (fetchByte_changes disp _)
  · exact (((fetchByte_changes disp s).trans (poll_changes _)).trans (idle_changes _)).trans (changes_pc _ _)

theorem branchLong_changes (disp : Word) (s : State) : Changes [] s (branchLong disp s) :=
  (((fetchWord_changes disp false s).trans (changes_pc _ _)).trans (poll_changes _)).trans (idle_changes _)

theorem changes_pc_k (v : Word) (b : Byte) (s : State) : Changes [.k] s { s with pc := v, k := b } := .of_plain

theorem jumpAbs_changes (a : Word) (s : State) : Changes [] s (jumpAbs a s) :=
  (fetchWord_changes a true s).trans (changes_pc a _)

theorem jumpLong_changes (a : Addr) (s : State) : Changes [.k] s (jumpLong a s) :=
  (((fetchWord_changes _ false s).trans (poll_changes _)).trans (fetchByte_changes _ _)).trans (changes_pc_k _ _ _)

theorem jumpInd_changes (a : Word) (s : State) : Changes [] s (jumpInd a s) :=
  ((fetchWord_changes a false s).trans (readWord_changes _ _ true _)).trans (changes_pc _ _)

theorem jumpThroughIndexed_changes (a : Word) (s : State) : Changes [] s (jumpThroughIndexed a s) :=
  (readWord_changes _ _ true s).trans (changes_pc _ _)

theorem jumpIndexed_changes (a : Word) (s : State) : Changes [] s (jumpIndexed a s) :=
  ((fetchWord_changes a false s).trans (idle_changes _)).trans (jumpThroughIndexed_changes a _)

theorem jumpIndLong_changes (a : Word) (s : State) : Changes [.k] s (jumpIndLong a s) :=
  ((((fetchWord_changes a false s).trans (readWord_changes _ _ false _)).trans (poll_changes _)).trans
    (busRead_changes _ _)).trans (changes_pc_k _ _ _)

theorem callAbs_changes (a : Word) (s : State) : Changes [.mem, .sp] s (callAbs a s) :=
  (((fetchWord_changes a false s).trans (idle_changes _)).trans (pushWord_changes _ true _)).trans (changes_pc a _)

theorem callLong_changes (a : Addr) (s : State) : Changes [.mem, .sp, .k] s (callLong a s) :=
  ((((((fetchWord_changes _ false s).trans (pushByte_changes _ _)).trans (idle_changes _)).trans
    (fetchByte_changes _ _)).trans (pushWord_changes _ true _)).trans (changes_pc_k _ _ _)).mono (by decide)

theorem callIndexed_changes (a : Word) (s : State) : Changes [.mem, .sp] s (callIndexed a s) :=
  ((((fetchByte_changes _ s).trans (pushWord_changes _ false _)).trans (fetchByte_changes _ _)).trans
    (idle_changes _)).trans (jumpThroughIndexed_changes _ _)

theorem returnShort_changes (s : State) : Changes [.sp] s (returnShort s) :=
  ((((idle_idle_changes s).trans (pullWord_changes false _)).trans (changes_pc _ _)).trans (poll_changes _)).trans
    (idle_changes _)

theorem returnLong_changes (s : State) : Changes [.sp, .k] s (returnLong s) :=
  ((((((idle_idle_changes s).trans (pullWord_changes false _)).trans (changes_pc _ _)).trans (poll_changes _)).trans
    (pullByte_changes _)).trans (changes_k _ _)).mono (by decide)

theorem softInt_changes (ev : VectorEvent) (sig : Byte) (s : State) :
    Changes [.mem, .sp, .fI, .fD, .k] s (softInt ev sig s) :=
  ((fetchByte_changes sig s).trans (enterHandler_changes _ _)).trans (loadVector_changes _ true _)

/-- The state of RTI once the flag byte is loaded (R281). -/
def flagsPulled (s : State) : State :=
  let f := pullByte (idle (idle s))
  setFlags f.1 f.2

theorem flagsPulled_changes (s : State) : Changes flagByteFields s (flagsPulled s) :=
  (((idle_idle_changes s).trans (pullByte_changes _)).trans (setFlags_changes _ _)).mono (by decide)

/-- In emulation mode RTI pulls PC alone after the flag byte: K is not among what it changes (R281). -/
theorem returnFromInterrupt_changes_emulation {s : State} (hE : s.fE = true) :
    Changes flagByteFields s (returnFromInterrupt s) := by
  have e : returnFromInterrupt s =
      { (pullWord true (flagsPulled s)).2 with pc := (pullWord true (flagsPulled s)).1 } := if_pos hE
  rw [e]
  exact (((flagsPulled_changes s).trans (pullWord_changes true _)).trans (changes_pc _ _)).mono (by decide)

theorem returnFromInterrupt_changes (s : State) :
    Changes (.k :: flagByteFields) s (returnFromInterrupt s) := by
  by_cases hE : s.fE = true
  · exact (returnFromInterrupt_changes_emulation hE).mono (by decide)
  · have e : returnFromInterrupt s =
        (let p := pullWord false (flagsPulled s)
          let b := pullByte (poll { p.2 with pc := p.1 })
          { b.2 with k := b.1 }) := if_neg hE
    rw [e]
    exact ((((((flagsPulled_changes s).trans (pullWord_changes false _)).trans (changes_pc _ _)).trans
      (poll_changes _)).trans (pullByte_changes _)).trans (changes_k _ _)).mono (by decide)

/-! ### Block moves, WAI and STP (46_block_wait.md) -/

theorem blockStep_changes (delta : Word) (dst src : Byte) (s : State) :
    Changes [.db, .mem, .a, .heldB, .x, .y] s (blockStep delta dst src s) := by
  have registers (t : State) (v pc : Word) :
      Changes [.a, .heldB, .x, .y] t { t with
        a := v
        x := maskW t.fX (t.x + delta)
        y := maskW t.fX (t.y + delta)
        pc := pc } :=
    .of_update id (fun _ hX => ⟨hiByte_maskW hX _, hiByte_maskW hX _⟩) id
  exact (((((((fetchByte_changes dst s).trans (fetchByte_changes src _)).trans (changes_db dst _)).trans
    (busRead_changes _ _)).trans (busWrite_changes _ _ _)).trans (registers _ _ _)).trans (idle_changes _)).trans
    ((poll_changes _).trans (idle_changes _))

theorem park_changes {w : List Field} {s t : State} (h : Changes w s t) : Changes (w ++ []) s (idle (idle t)) :=
  h.trans (idle_idle_changes t)

end Sys2Proof.Machine
end

section
/-! The writers of each field (10_state.md R20 to R36, R47), and that `exec` keeps to them: one theorem over all 256
instructions, from which every statement about what an instruction changes follows. -/

namespace Sys2Proof.Machine

/-! ### The writers -/

/-- Loads the whole flag byte (R41). -/
def flagLoaders : List Mnemonic := [.plp, .rti, .rep, .sep]

/-- Sets N and Z from a result. -/
def znWriters : List Mnemonic :=
  [.ora, .and, .eor, .adc, .sbc, .cmp, .cpx, .cpy, .lda, .ldx, .ldy, .asl, .lsr, .rol, .ror, .inc, .dec, .inx, .iny,
    .dex, .dey, .tax, .tay, .txa, .tya, .tsx, .txy, .tyx, .tcd, .tdc, .tsc, .xba, .pla, .plx, .ply, .plb, .pld]

/-- Has a form on A and forms on memory (R156 to R161). -/
def rmwMnemonics : List Mnemonic := [.asl, .lsr, .rol, .ror, .inc, .dec]

/-- Pushes or pulls. -/
def stackUsers : List Mnemonic :=
  [.pha, .phx, .phy, .php, .phb, .phd, .phk, .pla, .plx, .ply, .plp, .plb, .pld, .pea, .pei, .per, .jsr, .jsl, .rts,
    .rtl, .rti, .brk, .cop]

/-- The mnemonics with a form that writes the field in some state, the form's operand being in memory or not. -/
def writersOf (inMemory : Bool) : Field → List Mnemonic
  | .a => [.ora, .and, .eor, .adc, .sbc, .lda, .txa, .tya, .tsc, .tdc, .xba, .pla, .mvn, .mvp] ++
      if inMemory then [] else rmwMnemonics
  | .heldB => [.tsc, .tdc, .xba, .mvn, .mvp] ++ (.xce :: flagLoaders)
  | .x => [.ldx, .tax, .tsx, .tyx, .inx, .dex, .plx, .mvn, .mvp] ++ [.plp, .rti, .sep, .xce] ++ [.rep]
  | .y => [.ldy, .tay, .txy, .iny, .dey, .ply, .mvn, .mvp] ++ [.plp, .rti, .sep, .xce] ++ [.rep]
  | .sp => stackUsers ++ [.tcs, .txs, .xce] ++ [.rep, .sep]
  | .dp => [.tcd, .pld]
  | .k => [.jml, .jsl, .rtl, .brk, .cop] ++ [.rti]
  | .db => [.plb, .mvn, .mvp]
  | .fN => znWriters ++ (if inMemory then [.bit] else []) ++ flagLoaders
  | .fV => [.adc, .sbc, .clv] ++ (if inMemory then [.bit] else []) ++ flagLoaders
  | .fM => flagLoaders ++ [.xce]
  | .fX => flagLoaders ++ [.xce]
  | .fD => [.cld, .sed, .brk, .cop] ++ flagLoaders
  | .fI => [.cli, .sei, .brk, .cop] ++ flagLoaders
  | .fZ => znWriters ++ [.bit, .tsb, .trb] ++ flagLoaders
  | .fC => [.adc, .sbc, .cmp, .cpx, .cpy, .asl, .lsr, .rol, .ror, .clc, .sec, .xce] ++ flagLoaders
  | .fE => [.xce]
  | .resetWanted => []
  | .waiting => [.wai]
  | .stopped => [.stp]
  | .mem => [.sta, .stx, .sty, .stz, .tsb, .trb, .pha, .phx, .phy, .php, .phb, .phd, .phk, .pea, .pei, .per, .jsr, .jsl,
      .brk, .cop, .mvn, .mvp] ++ if inMemory then rmwMnemonics else []
  | .stepStartPoll => []

/-- `t` is `s` but for fields the mnemonic writes. -/
def ChangesNamed (mn : Mnemonic) (inMemory : Bool) (s t : State) : Prop :=
  ∃ w, Changes w s t ∧ ∀ f ∈ w, mn ∈ writersOf inMemory f

theorem Changes.named {w : List Field} {mn : Mnemonic} {inMemory : Bool} {s t : State} (h : Changes w s t)
    (hw : (w.all fun f => (writersOf inMemory f).contains mn) = true) : ChangesNamed mn inMemory s t :=
  ⟨w, h, fun f hf => List.mem_of_elem_eq_true (List.all_eq_true.mp hw f hf)⟩

/-- A field that changed is one the mnemonic writes. -/
theorem ChangesNamed.named {mn : Mnemonic} {inMemory : Bool} {s t : State} (h : ChangesNamed mn inMemory s t)
    {f : Field} (hf : ¬ f.Same s t) : mn ∈ writersOf inMemory f := by
  obtain ⟨w, hw, named⟩ := h
  by_contra hn
  exact hf (hw.same f fun hmem => hn (named f hmem))

theorem ChangesNamed.inv {mn : Mnemonic} {inMemory : Bool} {s t : State} (h : ChangesNamed mn inMemory s t)
    (hs : Inv s) : Inv t := by
  obtain ⟨w, hw, -⟩ := h
  exact hw.inv hs

/-! ### Instructions with a data operand -/

/-- Is the data operand in memory? -/
def inMemory (i : Instr) : Bool :=
  match operandOf i with
  | some (.mem _) => true
  | _ => false

/-- What a mnemonic does with an operand in memory. -/
theorem dataMeaning_mem_changes (mn : Mnemonic) (o : MemOperand) (s : State) :
    ChangesNamed mn true s (dataMeaning mn (.mem o) s) := by
  cases mn with
  | ora | and | eor => exact (aluLogic_changes _ (.mem o) s).named rfl
  | adc => exact (aluAdc_changes (.mem o) s).named rfl
  | sbc => exact (aluSbc_changes (.mem o) s).named rfl
  | cmp => exact (aluCmp_changes (.mem o) s).named rfl
  | cpx => exact (aluCpx_changes (.mem o) s).named rfl
  | cpy => exact (aluCpy_changes (.mem o) s).named rfl
  | lda => exact (aluLda_changes (.mem o) s).named rfl
  | ldx => exact (aluLdx_changes (.mem o) s).named rfl
  | ldy => exact (aluLdy_changes (.mem o) s).named rfl
  | bit => exact (aluBit_changes o s).named rfl
  | sta | stx | sty | stz => exact (storeData_changes o _ _ s).named rfl
  | asl => exact (rmwMem_changes rmwAsl_changes o s).named rfl
  | lsr => exact (rmwMem_changes rmwLsr_changes o s).named rfl
  | rol => exact (rmwMem_changes rmwRol_changes o s).named rfl
  | ror => exact (rmwMem_changes rmwRor_changes o s).named rfl
  | inc => exact (rmwMem_changes rmwInc_changes o s).named rfl
  | dec => exact (rmwMem_changes rmwDec_changes o s).named rfl
  | tsb => exact (rmwMem_changes rmwTsb_changes o s).named rfl
  | trb => exact (rmwMem_changes rmwTrb_changes o s).named rfl
  | pei =>
    cases o with
    | dp d => exact (pushIndirect_changes d s).named rfl
    | _ => exact (Changes.refl [] s).named rfl
  | _ => exact (Changes.refl [] s).named rfl

/-- The mnemonics with an immediate form of the width of a flag (R93). -/
def immediateMnemonics : List Mnemonic := [.ora, .and, .eor, .adc, .sbc, .cmp, .cpx, .cpy, .bit, .lda, .ldx, .ldy]

theorem mnemonicOf_imm {i : Instr} {c : Word} (ho : operandOf i = some (.imm c)) :
    mnemonicOf i ∈ immediateMnemonics := by
  cases i
  case oraImm | andImm | eorImm | adcImm | sbcImm | cmpImm | cpxImm | cpyImm | bitImm | ldaImm | ldxImm | ldyImm =>
    exact List.mem_of_elem_eq_true rfl
  all_goals exact nomatch ho

/-- What a mnemonic does with an immediate, where it has that form. -/
theorem dataMeaning_imm_changes {mn : Mnemonic} (hmn : mn ∈ immediateMnemonics) (c : Word) (s : State) :
    ChangesNamed mn false s (dataMeaning mn (.imm c) s) := by
  cases mn
  case ora | and | eor => exact (aluLogic_changes _ (.imm c) s).named rfl
  case adc => exact (aluAdc_changes (.imm c) s).named rfl
  case sbc => exact (aluSbc_changes (.imm c) s).named rfl
  case cmp => exact (aluCmp_changes (.imm c) s).named rfl
  case cpx => exact (aluCpx_changes (.imm c) s).named rfl
  case cpy => exact (aluCpy_changes (.imm c) s).named rfl
  case lda => exact (aluLda_changes (.imm c) s).named rfl
  case ldx => exact (aluLdx_changes (.imm c) s).named rfl
  case ldy => exact (aluLdy_changes (.imm c) s).named rfl
  case bit => exact (aluBitImm_changes c s).named rfl
  all_goals exact absurd hmn (by decide)

/-! ### All instructions -/

/-- An instruction without a data operand: its own meaning. -/
theorem exec_changes_of_none {i : Instr} (ho : operandOf i = none) (s : State) :
    ∃ t, exec i s = .next t ∧ ChangesNamed (mnemonicOf i) false s t := by
  cases i
  case aslAcc => exact ⟨_, rfl, (rmwAcc_changes rmwAsl_changes s).named rfl⟩
  case lsrAcc => exact ⟨_, rfl, (rmwAcc_changes rmwLsr_changes s).named rfl⟩
  case rolAcc => exact ⟨_, rfl, (rmwAcc_changes rmwRol_changes s).named rfl⟩
  case rorAcc => exact ⟨_, rfl, (rmwAcc_changes rmwRor_changes s).named rfl⟩
  case incAcc => exact ⟨_, rfl, (rmwAcc_changes rmwInc_changes s).named rfl⟩
  case decAcc => exact ⟨_, rfl, (rmwAcc_changes rmwDec_changes s).named rfl⟩
  case clc | sec => exact ⟨_, rfl, (implied_changes (changes_fC _ _)).named rfl⟩
  case cli | sei => exact ⟨_, rfl, (implied_changes (changes_fI _ _)).named rfl⟩
  case cld | sed => exact ⟨_, rfl, (implied_changes (changes_fD _ _)).named rfl⟩
  case clv => exact ⟨_, rfl, (implied_changes (changes_fV _ _)).named rfl⟩
  case tax | tyx | tsx | inx | dex => exact ⟨_, rfl, (implied_changes (putX_changes _ _)).named rfl⟩
  case tay | txy | iny | dey => exact ⟨_, rfl, (implied_changes (putY_changes _ _)).named rfl⟩
  case txa | tya => exact ⟨_, rfl, (implied_changes (putAccW_changes _ _)).named rfl⟩
  case tsc | tdc => exact ⟨_, rfl, (implied_changes (putAcc16_changes _ _)).named rfl⟩
  case tcd => exact ⟨_, rfl, (implied_changes (putDp_changes _ _)).named rfl⟩
  case tcs | txs => exact ⟨_, rfl, (implied_changes (putSp_changes _ _)).named rfl⟩
  case xba => exact ⟨_, rfl, (swapAccBytes_changes s).named rfl⟩
  case xce => exact ⟨_, rfl, (implied_changes (exchangeCE_changes _)).named rfl⟩
  case nop => exact ⟨_, rfl, (adrImp_changes s).named rfl⟩
  case wdm sig => exact ⟨_, rfl, ((poll_changes s).trans (fetchByte_changes sig _)).named rfl⟩
  case rep mask | sep mask => exact ⟨_, rfl, (changeFlags_changes _ mask s).named rfl⟩
  case pha | phx | phy => exact ⟨_, rfl, (pushSized_changes _ _ s).named rfl⟩
  case php | phb | phk => exact ⟨_, rfl, (push8_changes _ s).named rfl⟩
  case phd => exact ⟨_, rfl, (push16_changes _ s).named rfl⟩
  case pla => exact ⟨_, rfl, ((pullSized_changes _ s).trans (putAccW_changes _ _)).named rfl⟩
  case plx => exact ⟨_, rfl, ((pullSized_changes _ s).trans (putX_changes _ _)).named rfl⟩
  case ply => exact ⟨_, rfl, ((pullSized_changes _ s).trans (putY_changes _ _)).named rfl⟩
  case plp => exact ⟨_, rfl, ((pull8_changes s).trans (setFlags_changes _ _)).named rfl⟩
  case plb => exact ⟨_, rfl, ((pull8_changes s).trans (putDb_changes _ _)).named rfl⟩
  case pld => exact ⟨_, rfl, ((pull16_changes s).trans (putDp_changes _ _)).named rfl⟩
  case pea c => exact ⟨_, rfl, (pushConst_changes c s).named rfl⟩
  case per disp => exact ⟨_, rfl, (pushRelative_changes disp s).named rfl⟩
  case bpl disp | bmi disp | bvc disp | bvs disp | bcc disp | bcs disp | bne disp | beq disp | bra disp =>
    exact ⟨_, rfl, (branchIf_changes _ disp s).named rfl⟩
  case brl disp => exact ⟨_, rfl, (branchLong_changes disp s).named rfl⟩
  case jmpAbs a => exact ⟨_, rfl, (jumpAbs_changes a s).named rfl⟩
  case jmpInd a => exact ⟨_, rfl, (jumpInd_changes a s).named rfl⟩
  case jmpIax a => exact ⟨_, rfl, (jumpIndexed_changes a s).named rfl⟩
  case jmlLong a => exact ⟨_, rfl, (jumpLong_changes a s).named rfl⟩
  case jmlInd a => exact ⟨_, rfl, (jumpIndLong_changes a s).named rfl⟩
  case jsrAbs a => exact ⟨_, rfl, (callAbs_changes a s).named rfl⟩
  case jsrIax a => exact ⟨_, rfl, (callIndexed_changes a s).named rfl⟩
  case jsl a => exact ⟨_, rfl, (callLong_changes a s).named rfl⟩
  case rts => exact ⟨_, rfl, (returnShort_changes s).named rfl⟩
  case rtl => exact ⟨_, rfl, (returnLong_changes s).named rfl⟩
  case rti => exact ⟨_, rfl, (returnFromInterrupt_changes s).named rfl⟩
  case brk sig | cop sig => exact ⟨_, rfl, (softInt_changes _ sig s).named rfl⟩
  case mvn dst src | mvp dst src => exact ⟨_, rfl, (blockStep_changes _ dst src s).named rfl⟩
  case wai => exact ⟨_, rfl, (park_changes (changes_waiting true s)).named rfl⟩
  case stp => exact ⟨_, rfl, (park_changes (changes_stopped true s)).named rfl⟩
  all_goals exact nomatch ho

/-- Every instruction changes only fields it is named for, keeps a legal state legal, and leaves the request latches
to the host. -/
theorem exec_changes {i : Instr} {s t : State} (h : exec i s = .next t) :
    ChangesNamed (mnemonicOf i) (inMemory i) s t := by
  unfold inMemory
  cases ho : operandOf i with
  | none =>
    obtain ⟨u, hu, hc⟩ := exec_changes_of_none ho s
    cases hu.symm.trans h
    exact hc
  | some o =>
    cases (exec_data ho s).symm.trans h
    cases o with
    | mem m => exact dataMeaning_mem_changes _ m s
    | imm c => exact dataMeaning_imm_changes (mnemonicOf_imm ho) c s

end Sys2Proof.Machine
end

section
/-! The frames over all instructions (10_state.md R20 to R38, R47): what changed names its writer (`exec_changes`), and
the few instructions that write a field in some states only are looked at by themselves. -/

namespace Sys2Proof.Machine

/-! ### Instructions that write a field in some states only -/

/-- The one instruction of each of these mnemonics. -/
theorem eq_of_mnemonicOf (i : Instr) :
    (mnemonicOf i = .rti → i = .rti) ∧ (mnemonicOf i = .xce → i = .xce) ∧
    (mnemonicOf i = .wai → i = .wai) ∧ (mnemonicOf i = .stp → i = .stp) ∧
    (mnemonicOf i = .rep → ∃ mask, i = .rep mask) ∧ (mnemonicOf i = .sep → ∃ mask, i = .sep mask) := by
  cases i <;> simp [mnemonicOf]

/-- The form of BIT on memory is none of the immediate formats (R141). -/
theorem formatOf_bit_mem {i : Instr} (hmn : mnemonicOf i = .bit) (hmem : inMemory i = true) : formatOf i ≠ .fm := by
  cases i
  case bitDp | bitAbs | bitDpx | bitAbx => exact nofun
  case bitImm => exact nomatch hmem
  all_goals exact nomatch hmn

/-- The forms of the read-modify-write mnemonics that are not on memory (R164). -/
theorem accumulator_form {i : Instr} (hmn : mnemonicOf i ∈ rmwMnemonics) (hmem : inMemory i = false) :
    i ∈ [Instr.aslAcc, .lsrAcc, .rolAcc, .rorAcc, .incAcc, .decAcc] := by
  cases i
  case aslAcc | lsrAcc | rolAcc | rorAcc | incAcc | decAcc => exact List.mem_of_elem_eq_true rfl
  case aslDp | aslAbs | aslDpx | aslAbx | lsrDp | lsrAbs | lsrDpx | lsrAbx | rolDp | rolAbs | rolDpx | rolAbx |
      rorDp | rorAbs | rorDpx | rorAbx | incDp | incAbs | incDpx | incAbx | decDp | decAbs | decDpx | decAbx =>
    exact nomatch hmem
  all_goals exact absurd (List.elem_eq_true_of_mem hmn) Bool.false_ne_true

/-- M and flag X follow E where XCE changes them (R205). -/
theorem exchangeCE_widths {s : State} (h : (exchangeCE s).fM ≠ s.fM ∨ (exchangeCE s).fX ≠ s.fX) :
    (exchangeCE s).fE ≠ s.fE ∧ (exchangeCE s).fM = (exchangeCE s).fE ∧ (exchangeCE s).fX = (exchangeCE s).fE := by
  unfold exchangeCE at *
  cases hE : s.fE <;> cases hC : s.fC <;> simp_all [enterEmulation, enterNative]

/-- REP and SEP leave SP where the mode asks for it (R208, R209, R41). -/
theorem changeFlags_sp (f : Byte → Byte) (mask : Byte) {s : State} (h : EmulationInv s) :
    (changeFlags f mask s).sp = s.sp := by
  have page : s.fE = true → hiByte s.sp = 0x01#8 := fun hE => by
    obtain ⟨-, -, hsp⟩ := h hE
    exact hsp
  exact setFlags_sp_of_page (s := poll (fetchByte mask s)) page (f (getFlags (poll (fetchByte mask s))))

/-- REP can only clear flag X, so no index register loses a byte (R208, R38). -/
theorem rep_index (mask : Byte) {s : State} (h : Inv s) :
    (changeFlags (fun p => p &&& ~~~mask) mask s).x = s.x ∧ (changeFlags (fun p => p &&& ~~~mask) mask s).y = s.y := by
  obtain ⟨hemu, hidx, -⟩ := h
  have hX : (s.fE || (getFlags (poll (fetchByte mask s)) &&& ~~~mask).getLsbD 4) = true → s.fX = true := by
    intro hbit
    obtain ⟨-, -, -, h4, -⟩ := getLsbD_getFlags (poll (fetchByte mask s))
    rw [BitVec.getLsbD_and, h4, Bool.or_eq_true, Bool.and_eq_true] at hbit
    rcases hbit with hE | ⟨hX, -⟩
    · obtain ⟨-, hX, -⟩ := hemu hE
      exact hX
    · exact hX
  exact ⟨maskW_of_hiByte fun hbit => (hidx (hX hbit)).1, maskW_of_hiByte fun hbit => (hidx (hX hbit)).2⟩

/-! ### The statements -/

/-- Settles O19: each latch has the writer `writersOf` names, or none; NMI and a quiet host are in `Changes` itself. -/
theorem latchWriters : Obligations.LatchWriters := by
  intro i s t h
  have hc := exec_changes h
  obtain ⟨-, -, hwai, hstp, -⟩ := eq_of_mnemonicOf i
  refine ⟨fun hw => ?_, fun hs => ?_, ?_, ?_, ?_⟩
  · have hmn := List.mem_singleton.mp (hc.named (f := .waiting) hw)
    cases hwai hmn
    cases h
    exact ⟨hmn, rfl⟩
  · have hmn := List.mem_singleton.mp (hc.named (f := .stopped) hs)
    cases hstp hmn
    cases h
    exact ⟨hmn, rfl⟩
  · by_contra hr
    exact absurd (hc.named (f := .resetWanted) hr) List.not_mem_nil
  · by_contra hp
    exact absurd (hc.named (f := .stepStartPoll) hp) List.not_mem_nil
  · obtain ⟨w, hw, -⟩ := hc
    exact ⟨hw.nmi, hw.quiet⟩

/-- In emulation mode the widths are pinned (R37): a change of M or flag X is a load of the flag byte in native mode, or
XCE with a change of E. -/
theorem width_writers {i : Instr} {s t : State} (hs : EmulationInv s) (h : exec i s = .next t)
    (hw : t.fM ≠ s.fM ∨ t.fX ≠ s.fX) :
    mnemonicOf i ∈ flagLoaders ∧ s.fE = false ∨
      mnemonicOf i = .xce ∧ t.fE ≠ s.fE ∧ t.fM = t.fE ∧ t.fX = t.fE := by
  have hc := exec_changes h
  have hmn : mnemonicOf i ∈ flagLoaders ++ [.xce] := hw.elim (hc.named (f := .fM)) (hc.named (f := .fX))
  rcases List.mem_append.mp hmn with hload | hxce
  · left
    refine ⟨hload, ?_⟩
    by_contra hE
    rw [Bool.not_eq_false] at hE
    have hEt : t.fE = s.fE := by
      by_contra hne
      have hx : mnemonicOf i = .xce := List.mem_singleton.mp (hc.named (f := .fE) hne)
      rw [hx] at hload
      exact absurd hload (by decide)
    obtain ⟨w, hch, -⟩ := hc
    obtain ⟨hM, hX, -⟩ := hs hE
    obtain ⟨hMt, hXt, -⟩ := hch.emulation hs (hEt.trans hE)
    rcases hw with hne | hne
    · exact hne (hMt.trans hM.symm)
    · exact hne (hXt.trans hX.symm)
  · right
    have hx := List.mem_singleton.mp hxce
    obtain ⟨-, hxi, -⟩ := eq_of_mnemonicOf i
    cases hxi hx
    cases h
    obtain hM : (adrImp s).fM = s.fM := (adrImp_changes s).same .fM (by decide)
    obtain hX : (adrImp s).fX = s.fX := (adrImp_changes s).same .fX (by decide)
    obtain hE : (adrImp s).fE = s.fE := (adrImp_changes s).same .fE (by decide)
    rw [← hM, ← hX] at hw
    rw [← hE]
    exact ⟨hx, exchangeCE_widths hw⟩

/-- BIT is among the writers of N and V by its forms on memory alone. -/
theorem bit_of_mem {i : Instr} (h : mnemonicOf i ∈ if inMemory i then [Mnemonic.bit] else []) :
    mnemonicOf i = .bit ∧ formatOf i ≠ .fm := by
  cases hmem : inMemory i with
  | true =>
    rw [hmem] at h
    have hmn := List.mem_singleton.mp h
    exact ⟨hmn, formatOf_bit_mem hmn hmem⟩
  | false =>
    rw [hmem] at h
    exact absurd h List.not_mem_nil

/-- Settles O16: each flag's writers are those of `writersOf`; M and flag X by `width_writers`. -/
theorem flagWriters : Obligations.FlagWriters := by
  intro i s t hs h
  have hc := exec_changes h
  refine ⟨fun hn => ?_, fun hn => ?_, fun hn => ?_, fun hn => List.mem_append.mp (hc.named (f := .fC) hn),
    fun hn => List.mem_append.mp (hc.named (f := .fD) hn), fun hn => List.mem_append.mp (hc.named (f := .fI) hn),
    width_writers hs h, fun hn => List.mem_singleton.mp (hc.named (f := .fE) hn)⟩
  · have hmn := hc.named (f := .fN) hn
    rw [writersOf, List.mem_append, List.mem_append, or_assoc] at hmn
    exact hmn.imp_right (Or.imp_left bit_of_mem)
  · have hmn := hc.named (f := .fZ) hn
    rw [writersOf, List.mem_append, List.mem_append, or_assoc] at hmn
    exact hmn
  · have hmn := hc.named (f := .fV) hn
    rw [writersOf, List.mem_append, List.mem_append, or_assoc] at hmn
    exact hmn.imp_right (Or.imp_left bit_of_mem)

/-- The upper byte of A at M = 1 (R20): of the instructions that change it, those that load the flag byte leave A. -/
theorem upperA_writers {i : Instr} {s t : State} (h : exec i s = .next t) (hM : s.fM = true)
    (hne : hiByte t.a ≠ hiByte s.a) : mnemonicOf i ∈ [Mnemonic.tsc, .tdc, .xba, .mvn, .mvp] := by
  have hc := exec_changes h
  have hB := hc.named (f := .heldB) fun e => hne (hiByte_a_of_heldB e hM)
  have hA := hc.named (f := .a) fun e : t.a = s.a => hne (congrArg hiByte e)
  rcases List.mem_append.mp hB with hmn | hload
  · exact hmn
  · have disjoint : ∀ mem, ∀ mn ∈ writersOf mem .a, mn ∉ Mnemonic.xce :: flagLoaders := by decide
    exact absurd hload (disjoint _ _ hA)

/-- REP writes neither index register nor, with SEP, SP. -/
theorem rep_sep_frame {i : Instr} {s t : State} (hs : Inv s) (h : exec i s = .next t) :
    (mnemonicOf i = .rep → t.x = s.x ∧ t.y = s.y) ∧ (mnemonicOf i ∈ [Mnemonic.rep, .sep] → t.sp = s.sp) := by
  obtain ⟨-, -, -, -, hrep, hsep⟩ := eq_of_mnemonicOf i
  have ⟨hemu, _, _⟩ := hs
  constructor
  · intro hmn
    obtain ⟨mask, rfl⟩ := hrep hmn
    cases h
    exact rep_index mask hs
  · intro hmn
    rcases List.mem_pair.mp hmn with hr | hp
    · obtain ⟨mask, rfl⟩ := hrep hr
      cases h
      exact changeFlags_sp _ mask hemu
    · obtain ⟨mask, rfl⟩ := hsep hp
      cases h
      exact changeFlags_sp _ mask hemu

/-- In emulation mode RTI does not pull K (R281). -/
theorem rti_native_of_k {s t : State} (h : exec .rti s = .next t) (hk : t.k ≠ s.k) : s.fE = false := by
  by_contra hE
  rw [Bool.not_eq_false] at hE
  cases h
  exact hk ((returnFromInterrupt_changes_emulation hE).same .k (by decide))

/-- Settles O17: each register's writers are those of `writersOf`, but that in a legal state REP and SEP leave SP, and
REP leaves X and Y, and RTI writes K in native mode only. -/
theorem registerWriters : Obligations.RegisterWriters := by
  intro i s t hs h
  have hc := exec_changes h
  obtain ⟨hindex, hsp⟩ := rep_sep_frame hs h
  refine ⟨fun hn => ?_, upperA_writers h, fun hn => ?_, fun hn => ?_, fun hn => ?_, hc.named (f := .dp), fun hn => ?_,
    hc.named (f := .db)⟩
  · rcases List.mem_append.mp (hc.named (f := .a) hn) with hmn | hmn
    · exact .inl hmn
    · cases hmem : inMemory i with
      | true =>
        rw [hmem] at hmn
        exact absurd hmn List.not_mem_nil
      | false =>
        rw [hmem] at hmn
        exact .inr (accumulator_form hmn hmem)
  · rcases List.mem_append.mp (hc.named (f := .x) hn) with hmn | hrep
    · exact List.mem_append.mp hmn
    · exact absurd (hindex (List.mem_singleton.mp hrep)).1 hn
  · rcases List.mem_append.mp (hc.named (f := .y) hn) with hmn | hrep
    · exact List.mem_append.mp hmn
    · exact absurd (hindex (List.mem_singleton.mp hrep)).2 hn
  · rcases List.mem_append.mp (hc.named (f := .sp) hn) with hmn | hrep
    · exact List.mem_append.mp hmn
    · exact absurd (hsp hrep) hn
  · rcases List.mem_append.mp (hc.named (f := .k) hn) with hmn | hrti
    · exact .inl hmn
    · have hmn := List.mem_singleton.mp hrti
      obtain ⟨hi, -⟩ := eq_of_mnemonicOf i
      cases hi hmn
      exact .inr ⟨hmn, rti_native_of_k h hn⟩

end Sys2Proof.Machine
end

section
/-! Legal states (10_state.md R37, R38): the state after reset is one, and the host's operations and every step keep to
them. -/

namespace Sys2Proof.Machine

/-! ### Reset and the host's operations -/

/-- Settles O14: `State.reset` is a literal, so its invariant is a closed, decidable fact. -/
theorem invAtReset : Obligations.InvAtReset := by
  unfold Obligations.InvAtReset
  decide

/-- The fields a hard reset zeroes make both invariants of R37 and R38 hold vacuously: E and flag X are 0. -/
theorem inv_zeroCore {s : State} (h : Inv s) : Inv (zeroCore s) := by
  obtain ⟨-, -, hmem⟩ := h
  exact ⟨by simp [EmulationInv, zeroCore], by simp [IndexInv, zeroCore], hmem⟩

/-- A reset request touches the latches only, a hard one after zeroing the core (R350). -/
theorem inv_hostReset (hard : Bool) {s : State} (h : Inv s) : Inv (hostReset hard s) := by
  cases hard
  · exact h
  · exact (inv_zeroCore h : Inv (zeroCore s))

/-- Settles O15: `Nmi` and `SetIrq` write a latch, of which the invariant does not speak. -/
theorem hostKeepsInv : Obligations.HostKeepsInv :=
  fun _ v h => ⟨inv_hostReset v h, h, h⟩

/-! ### Every step -/

/-- The latches are no part of a legal state. -/
theorem inv_latches {s : State} (nmi int reset : Bool) (h : Inv s) :
    Inv { s with nmiWanted := nmi, intWanted := int, resetWanted := reset } := h

theorem dummyStackRead_mem (s : State) : (dummyStackRead s).mem = s.mem := rfl

/-- The last step of the reset sequence (R352) keeps a legal state legal. -/
theorem inv_resetVector {s : State} (h : Inv s) :
    Inv { loadVector (vectorOf .reset s.fE) false s with resetWanted := false } :=
  inv_latches _ _ false ((loadVector_changes _ false s).inv h)

/-- The reset sequence makes any state with a canonical memory legal: its cycles leave memory alone, and SetFlags does
the rest (R352). -/
theorem inv_resetSequence {s : State} (hm : memWf s.mem = true) : Inv (resetSequence s) := by
  have loaded (u : State) (hu : memWf u.mem = true) : Inv { setFlags (getFlags u) u with k := 0x00#8 } :=
    (changes_k 0x00#8 (setFlags (getFlags u) u)).inv ⟨setFlags_emulation _ u, setFlags_index _ u, hu⟩
  unfold resetSequence
  refine inv_resetVector (loaded _ ?_)
  simp only [dummyStackRead_mem, idle_mem, busRead_mem, hm]

/-- A hardware interrupt's entry (R322). -/
theorem inv_doInterrupt {s : State} (h : Inv s) : Inv (doInterrupt s) := by
  unfold doInterrupt
  have entered := ((idle_changes s).trans (enterHandler_changes (interruptFlags (idle s)) _)).inv h
  exact inv_latches _ _ _ ((loadVector_changes _ false _).inv (inv_latches _ false _ entered))

theorem inv_waitingTick {s : State} (h : Inv s) : Inv (waitingTick s) := by
  unfold waitingTick
  split
  · exact ((((changes_waiting false s).trans (idle_changes _)).trans (poll_changes _)).trans (idle_changes _)).inv h
  · exact (idleWait_changes s).inv h

/-- The normal path (R321): an interrupt's entry after its dummy read, or one instruction after its opcode's fetch. -/
theorem inv_serviceOrRun {s t : State} (h : Inv s) (ht : serviceOrRun s = .next t) : Inv t := by
  unfold serviceOrRun at ht
  split at ht
  · cases ht
    exact inv_doInterrupt ((busRead_changes _ s).inv h)
  · exact (exec_changes ht).inv ((fetchByte_changes _ s).inv h)

/-- Settles O13, by the first closed gate of the step; with no gate closed, by `inv_serviceOrRun`. -/
theorem invKept : Obligations.InvKept := by
  intro s t hs ht
  have hs' : Inv { s with trace := [] } := hs
  cases hreset : s.resetWanted with
  | true =>
    cases (step_of_resetWanted hreset).symm.trans ht
    obtain ⟨-, -, hmem⟩ := hs
    exact inv_resetSequence hmem
  | false =>
    cases hstopped : s.stopped with
    | true =>
      cases (step_of_stopped hreset hstopped).symm.trans ht
      exact (idleWait_changes _).inv hs'
    | false =>
      cases hwaiting : s.waiting with
      | true =>
        cases (step_of_waiting hreset hstopped hwaiting).symm.trans ht
        exact inv_waitingTick hs'
      | false =>
        rw [step_of_running ⟨hreset, hstopped, hwaiting⟩] at ht
        exact inv_serviceOrRun ((pollIf_changes _ _).inv hs') ht

end Sys2Proof.Machine
end

section
/-! The flag byte (10_state.md R29, R40, R41, R44). -/

namespace Sys2Proof.Machine

/-- R44: what SetFlags loads, GetFlags gives back, but for the bits of M and flag X that E = 1 pins. -/
theorem getFlags_setFlags (f : Byte) (s : State) : getFlags (setFlags f s) = if s.fE then f ||| 0x30#8 else f := by
  obtain ⟨h7, h6, h5, h4, h3, h2, h1, h0⟩ := getLsbD_getFlags (setFlags f s)
  refine BitVec.eq_of_getLsbD_eq fun i hi => ?_
  cases hE : s.fE
  all_goals interval_cases i <;> simp only [h7, h6, h5, h4, h3, h2, h1, h0] <;> simp [hE]

/-- Settles O21: the layout is `getLsbD_getFlags`, the round trip `getFlags_setFlags`. -/
theorem flagByte : Obligations.FlagByte := by
  intro s f
  refine ⟨getLsbD_getFlags s, getFlags_setFlags f s, fun hE => ?_⟩
  simp [hE, hiByte_maskW_true]

end Sys2Proof.Machine
end

section
/-! Stores (20_memory.md R60, R81; 44_stack.md R74): which instructions store, and that every byte of memory that a step
changed is in its record of events. -/

namespace Sys2Proof.Machine

/-- Settles O18: the writers `writersOf` names for memory, the shifts among them by their forms on memory alone. -/
theorem memoryWriters : Obligations.MemoryWriters := by
  intro i s t h hne
  have hmn := (exec_changes h).named (f := .mem) hne
  refine (List.mem_append.mp hmn).imp_right fun hrmw => ?_
  unfold inMemory at hrmw
  cases ho : operandOf i with
  | none => simp [ho] at hrmw
  | some o =>
    cases o with
    | mem m => exact ⟨by simpa [ho, rmwMnemonics] using hrmw, rfl⟩
    | imm c => simp [ho] at hrmw

/-! ### A record of events that names every changed byte -/

/-- The memory is canonical, and each byte of it that is not as in `m` is at the address of a write in the record. -/
def Recorded (m : List Host.Cell) (t : State) : Prop :=
  memWf t.mem = true ∧ ∀ a, memRead t.mem a ≠ memRead m a → ∃ r v, Event.write r v ∈ t.trace ∧ r.toNat = a

theorem Recorded.of_mem_eq {m : List Host.Cell} {t : State} (hm : memWf m = true) (h : t.mem = m) : Recorded m t := by
  subst h
  exact ⟨hm, fun _ hne => absurd rfl hne⟩

/-- A part of an instruction that memory is not among the fields of. -/
theorem Changes.recorded {w : List Field} {s t : State} (h : Changes w s t) (hw : w.contains .mem = false)
    (hm : memWf s.mem = true) : Recorded s.mem t :=
  .of_mem_eq hm (h.same .mem fun hmem => Bool.false_ne_true (hw.symm.trans (List.elem_eq_true_of_mem hmem)))

/-- An instruction that is not among the writers of memory. -/
theorem ChangesNamed.recorded {mn : Mnemonic} {inMemory : Bool} {s t : State} (h : ChangesNamed mn inMemory s t)
    (hmn : mn ∉ writersOf inMemory .mem) (hm : memWf s.mem = true) : Recorded s.mem t := by
  by_cases hmem : t.mem = s.mem
  · exact .of_mem_eq hm hmem
  · exact absurd (h.named (f := .mem) hmem) hmn

section
variable {m : List Host.Cell} {t : State} (h : Recorded m t)
include h

/-- An update that keeps the memory and loses no event. -/
theorem Recorded.mono {u : State} (hmem : u.mem = t.mem) (htr : t.trace ⊆ u.trace) : Recorded m u := by
  obtain ⟨hm, hrec⟩ := h
  refine ⟨hmem ▸ hm, fun a hne => ?_⟩
  rw [hmem] at hne
  obtain ⟨r, v, hev, hr⟩ := hrec a hne
  exact ⟨r, v, htr hev, hr⟩

/-- Registers, flags and latches are neither memory nor record. -/
theorem Recorded.set (sp pc : Word) (k : Byte) (fD fI nmi int : Bool) :
    Recorded m { t with sp := sp, pc := pc, k := k, fD := fD, fI := fI, nmiWanted := nmi, intWanted := int } :=
  h.mono rfl (List.Subset.refl _)

theorem Recorded.cycle (e : Event) : Recorded m (cycle e t) := h.mono rfl (List.subset_append_left _ _)
theorem Recorded.idle : Recorded m (idle t) := h.cycle _
theorem Recorded.busRead (r : Addr) : Recorded m (busRead r t).2 := h.cycle _
theorem Recorded.poll : Recorded m (poll t) := h.mono rfl (List.subset_append_left _ _)
theorem Recorded.fetchByte (b : Byte) : Recorded m (fetchByte b t) := (h.cycle _).set ..

theorem Recorded.pollIf (p : Bool) : Recorded m (pollIf p t) := by
  cases p
  · exact h
  · exact h.poll

theorem Recorded.readWord (lo hi : Addr) (p : Bool) : Recorded m (readWord lo hi p t).2 :=
  ((h.busRead lo).pollIf p).busRead hi

theorem Recorded.loadVector (v : Word) (p : Bool) : Recorded m (loadVector v p t) :=
  (h.readWord (bank0 v) (bank0 (v + 1)) p).set ..

/-- A bus write stores at one address (R81), the one its event names. -/
theorem Recorded.busWrite (r : Addr) (b : Byte) : Recorded m (busWrite r b t) := by
  obtain ⟨hm, hrec⟩ := h
  refine ⟨memWf_busWrite hm r b, fun a hne => ?_⟩
  rw [busWrite_trace]
  by_cases ha : a = r.toNat
  · exact ⟨r, b, List.mem_append_right _ (List.mem_singleton_self _), ha.symm⟩
  · rw [busWrite_mem, memRead_memWrite hm, if_neg ha] at hne
    obtain ⟨r', v, hev, hr⟩ := hrec a hne
    exact ⟨r', v, List.mem_append_left _ hev, hr⟩

theorem Recorded.writeWord (lo hi : Addr) (v : Word) (rev p : Bool) : Recorded m (writeWord lo hi v rev p t) := by
  cases rev
  · exact ((h.busWrite lo _).pollIf p).busWrite hi _
  · exact ((h.busWrite hi _).pollIf p).busWrite lo _

theorem Recorded.writeOperand (p : AddrPair) (v : Word) (w8 : Bool) : Recorded m (writeOperand p v w8 t) := by
  cases w8
  · exact h.writeWord p.lo p.hi v false true
  · exact h.poll.busWrite p.lo _

theorem Recorded.pushByte (b : Byte) : Recorded m (pushByte b t) := (h.busWrite _ b).set ..

theorem Recorded.pushWord (v : Word) (p : Bool) : Recorded m (pushWord v p t) :=
  ((h.pushByte _).pollIf p).pushByte _

/-- Taking an exception pushes the frame (R324). -/
theorem Recorded.enterHandler (flags : Byte) : Recorded m (enterHandler flags t) := by
  have bank : Recorded m (if t.fE then t else Machine.pushByte t.k t) := by
    split
    · exact h
    · exact h.pushByte t.k
  exact ((bank.pushWord _ false).pushByte flags).set ..

theorem Recorded.doInterrupt : Recorded m (doInterrupt t) :=
  (((h.idle.enterHandler (interruptFlags (Machine.idle t))).set ..).loadVector _ false).set ..

end

/-! ### The instructions that store -/

theorem storeData_recorded (o : MemOperand) (v : Word) (w8 : Bool) {s : State} (hm : memWf s.mem = true) :
    Recorded s.mem (storeData o v w8 s) :=
  ((address_changes o true s).recorded rfl hm).writeOperand _ v w8

/-- A read-modify-write (R155) whose function leaves memory alone. -/
theorem rmwMem_recorded {f : Word → State → Word × State} {w : List Field} (hf : ∀ v s, Changes w s (f v s).2)
    (hw : w.contains .mem = false) (o : MemOperand) {s : State} (hm : memWf s.mem = true) :
    Recorded s.mem (rmwMem f o s) := by
  have ha := address_changes o true s
  unfold rmwMem rmwAt
  dsimp only
  split
  · exact (((ha.trans (busRead_changes _ _)).trans (idle_changes _)).trans (hf _ _)).recorded hw hm
      |>.poll.busWrite _ _
  · exact (((ha.trans (readWord_changes _ _ false _)).trans (idle_changes _)).trans (hf _ _)).recorded hw hm
      |>.writeWord _ _ _ true true

theorem pushSized_recorded (w8 : Bool) (v : Word) {s : State} (hm : memWf s.mem = true) :
    Recorded s.mem (pushSized w8 v s) := by
  have hi := (idle_changes s).recorded rfl hm
  cases w8
  · exact hi.pushWord v true
  · exact hi.poll.pushByte (loByte v)

theorem push8_recorded (b : Byte) {s : State} (hm : memWf s.mem = true) : Recorded s.mem (push8 b s) :=
  ((idle_changes s).recorded rfl hm).poll.pushByte b

theorem push16_recorded (v : Word) {s : State} (hm : memWf s.mem = true) : Recorded s.mem (push16 v s) :=
  ((idle_changes s).recorded rfl hm).pushWord v true

theorem pushIndirect_recorded (d : Byte) {s : State} (hm : memWf s.mem = true) :
    Recorded s.mem (pushIndirect d s) :=
  (((address_changes (.dp d) false s).trans (readWord_changes _ _ false _)).recorded rfl hm).pushWord _ true

theorem pushRelative_recorded (disp : Word) {s : State} (hm : memWf s.mem = true) :
    Recorded s.mem (pushRelative disp s) :=
  (((fetchWord_changes disp false s).trans (idle_changes _)).recorded rfl hm).pushWord _ true

theorem callAbs_recorded (a : Word) {s : State} (hm : memWf s.mem = true) : Recorded s.mem (callAbs a s) :=
  ((((fetchWord_changes a false s).trans (idle_changes _)).recorded rfl hm).pushWord _ true).set ..

theorem callLong_recorded (a : Addr) {s : State} (hm : memWf s.mem = true) : Recorded s.mem (callLong a s) :=
  (((((fetchWord_changes (addrOffset a) false s).recorded rfl hm).pushByte _).idle.fetchByte _).pushWord _ true).set ..

theorem callIndexed_recorded (a : Word) {s : State} (hm : memWf s.mem = true) : Recorded s.mem (callIndexed a s) :=
  (((((fetchByte_changes (loByte a) s).recorded rfl hm).pushWord _ false).fetchByte _).idle.readWord _ _ true).set ..

theorem softInt_recorded (ev : VectorEvent) (sig : Byte) {s : State} (hm : memWf s.mem = true) :
    Recorded s.mem (softInt ev sig s) :=
  (((fetchByte_changes sig s).recorded rfl hm).enterHandler _).loadVector _ true

theorem blockStep_recorded (delta : Word) (dst src : Byte) {s : State} (hm : memWf s.mem = true) :
    Recorded s.mem (blockStep delta dst src s) := by
  have copied := ((((fetchByte_changes dst s).trans (fetchByte_changes src _)).trans (changes_db dst _)).trans
    (busRead_changes (bankAddr src s.x) _)).recorded rfl hm |>.busWrite (bankAddr dst s.y)
  exact (copied _).idle.poll.idle

/-- What a mnemonic does with an operand in memory; on one, the pushes and calls but PEI mean nothing. -/
theorem dataMeaning_mem_recorded (mn : Mnemonic) (o : MemOperand) {s : State} (hm : memWf s.mem = true) :
    Recorded s.mem (dataMeaning mn (.mem o) s) := by
  cases mn with
  | sta | stx | sty | stz => exact storeData_recorded o _ _ hm
  | asl => exact rmwMem_recorded rmwAsl_changes rfl o hm
  | lsr => exact rmwMem_recorded rmwLsr_changes rfl o hm
  | rol => exact rmwMem_recorded rmwRol_changes rfl o hm
  | ror => exact rmwMem_recorded rmwRor_changes rfl o hm
  | inc => exact rmwMem_recorded rmwInc_changes rfl o hm
  | dec => exact rmwMem_recorded rmwDec_changes rfl o hm
  | tsb => exact rmwMem_recorded rmwTsb_changes rfl o hm
  | trb => exact rmwMem_recorded rmwTrb_changes rfl o hm
  | pei =>
    cases o with
    | dp d => exact pushIndirect_recorded d hm
    | _ => exact .of_mem_eq hm rfl
  | pha | phx | phy | php | phb | phd | phk | pea | per | jsr | jsl | brk | cop | mvn | mvp => exact .of_mem_eq hm rfl
  | _ => exact (dataMeaning_mem_changes _ o s).recorded (by decide) hm

/-- The storing instructions without a data operand: pushes, calls, BRK, COP and the block moves. -/
theorem exec_recorded_of_none {i : Instr}
    (hi : ((operandOf i).isNone && (writersOf false .mem).contains (mnemonicOf i)) = true) {s : State}
    (hm : memWf s.mem = true) : ∃ t, exec i s = .next t ∧ Recorded s.mem t := by
  cases i
  case pha | phx | phy => exact ⟨_, rfl, pushSized_recorded _ _ hm⟩
  case php | phb | phk => exact ⟨_, rfl, push8_recorded _ hm⟩
  case phd => exact ⟨_, rfl, push16_recorded _ hm⟩
  case pea c => exact ⟨_, rfl, ((fetchWord_changes c false s).recorded rfl hm).pushWord c true⟩
  case per disp => exact ⟨_, rfl, pushRelative_recorded disp hm⟩
  case jsrAbs a => exact ⟨_, rfl, callAbs_recorded a hm⟩
  case jsrIax a => exact ⟨_, rfl, callIndexed_recorded a hm⟩
  case jsl a => exact ⟨_, rfl, callLong_recorded a hm⟩
  case brk sig | cop sig => exact ⟨_, rfl, softInt_recorded _ sig hm⟩
  case mvn dst src | mvp dst src => exact ⟨_, rfl, blockStep_recorded _ dst src hm⟩
  all_goals exact absurd hi Bool.false_ne_true

/-- Every instruction's record names the bytes it changed; one that is no writer of memory changed none. -/
theorem exec_recorded {i : Instr} {s t : State} (hm : memWf s.mem = true) (h : exec i s = .next t) :
    Recorded s.mem t := by
  by_cases hmn : mnemonicOf i ∈ writersOf (inMemory i) .mem
  · unfold inMemory at hmn
    cases ho : operandOf i with
    | none =>
      rw [ho] at hmn
      obtain ⟨u, hu, hrec⟩ := exec_recorded_of_none (by rw [ho]; exact List.elem_eq_true_of_mem hmn) hm
      cases hu.symm.trans h
      exact hrec
    | some o =>
      cases (exec_data ho s).symm.trans h
      cases o with
      | mem o => exact dataMeaning_mem_recorded _ o hm
      | imm c =>
        rw [ho] at hmn
        have disjoint : ∀ mn ∈ immediateMnemonics, mn ∉ writersOf false .mem := by decide
        exact absurd hmn (disjoint _ (mnemonicOf_imm ho))
  · exact (exec_changes h).recorded hmn hm

/-! ### Every step -/

theorem resetSequence_mem (s : State) : (resetSequence s).mem = s.mem := by
  unfold resetSequence
  dsimp only
  rw [(loadVector_changes _ false _).same .mem (by decide)]
  simp only [setFlags_mem, dummyStackRead_mem, idle_mem, busRead_mem]

theorem waitingTick_mem (s : State) : (waitingTick s).mem = s.mem := by
  unfold waitingTick
  split <;> rfl

theorem serviceOrRun_recorded {s t : State} (hm : memWf s.mem = true) (ht : serviceOrRun s = .next t) :
    Recorded s.mem t := by
  unfold serviceOrRun at ht
  split at ht
  · cases ht
    exact ((busRead_changes (pcAddr s) s).recorded rfl hm).doInterrupt
  · exact exec_recorded (s := fetchOpcode s) hm ht

/-- Settles O20, by the first closed gate of the step: the reset sequence and the parked gates leave memory alone; with
no gate closed, by `serviceOrRun_recorded`. -/
theorem storesRecorded : Obligations.StoresRecorded := by
  intro s t hm ht
  suffices h : Recorded s.mem t from h.2
  cases hreset : s.resetWanted with
  | true =>
    cases (step_of_resetWanted hreset).symm.trans ht
    exact .of_mem_eq hm (resetSequence_mem _)
  | false =>
    cases hstopped : s.stopped with
    | true =>
      cases (step_of_stopped hreset hstopped).symm.trans ht
      exact .of_mem_eq hm rfl
    | false =>
      cases hwaiting : s.waiting with
      | true =>
        cases (step_of_waiting hreset hstopped hwaiting).symm.trans ht
        exact .of_mem_eq hm (waitingTick_mem _)
      | false =>
        rw [step_of_running ⟨hreset, hstopped, hwaiting⟩] at ht
        have hpoll : (startPoll { s with trace := [] }).mem = s.mem := (pollIf_changes _ _).same .mem (by decide)
        rw [← hpoll] at hm ⊢
        exact serviceOrRun_recorded hm ht

end Sys2Proof.Machine
end

section
/-! A load sees the latest store (20_memory.md R81; 41_alu_read.md R142 to R144; 42_store_rmw.md R151 to R154). -/

namespace Sys2Proof.Machine

/-- The value at an address pair of a memory into which it was stored at an equal pair: all of it, or at the 8-bit width
its low byte, of which the low addresses alone decide. -/
theorem valueAt_of_stored {s u : State} {p q : AddrPair} {v : Word} {w8 : Bool} (hp : p.lo ≠ p.hi)
    (hstored : ∀ a, memRead u.mem a = bytesStored p v w8 s a) (hlo : q.lo = p.lo) (hhi : w8 = false → q.hi = p.hi) :
    valueAt q w8 u = if w8 then zextByte (loByte v) else v := by
  have low : memRead u.mem q.lo.toNat = loByte v := by rw [hstored, hlo, bytesStored, if_pos rfl]
  cases w8 with
  | true => exact congrArg zextByte low
  | false =>
    have hne : p.hi.toNat ≠ p.lo.toNat := fun e => hp (BitVec.eq_of_toNat_eq e.symm)
    have high : memRead u.mem q.hi.toNat = hiByte v := by
      rw [hstored, hhi rfl, bytesStored, if_neg hne]
      simp
    calc valueAt q false u = mkWord (memRead u.mem q.hi.toNat) (memRead u.mem q.lo.toNat) := rfl
      _ = v := by rw [low, high, mkWord_hi_lo]

/-- What each store stores, and at which width (R151 to R154). -/
theorem dataMeaning_store {s : State} {row : Mnemonic × Word × Bool}
    (hrow : row ∈ [(Mnemonic.sta, s.a, s.fM), (.stx, s.x, s.fX), (.sty, s.y, s.fX), (.stz, 0, s.fM)])
    (o : MemOperand) : dataMeaning row.1 (.mem o) s = storeData o row.2.1 row.2.2 s := by
  simp only [List.mem_cons, List.not_mem_nil, or_false] at hrow
  rcases hrow with rfl | rfl | rfl | rfl <;> rfl

/-- LDA puts its operand into A at the width of M, B kept (R142). -/
theorem aluLda_a {u : State} (hu : Quiet u) (o : Operand) :
    (aluLda o u).a = mergeAcc u.fM u.a (operandValue o u.fM u) := by
  rw [aluLda, readData_quiet hu]
  rfl

/-- LDX puts its operand at the width of flag X into X (R143). -/
theorem aluLdx_x {u : State} (hu : Quiet u) (o : Operand) : (aluLdx o u).x = operandValue o u.fX u := by
  rw [aluLdx, readData_quiet hu]
  rfl

/-- LDY puts its operand at the width of flag X into Y (R144). -/
theorem aluLdy_y {u : State} (hu : Quiet u) (o : Operand) : (aluLdy o u).y = operandValue o u.fX u := by
  rw [aluLdy, readData_quiet hu]
  rfl

/-- Settles O59: `storeData_quiet` says what the memory holds after the store, `valueAt_of_stored` what a load reads of
it at the same addresses. -/
theorem storeThenLoad : Obligations.StoreThenLoad := by
  intro i j o q s hs hm hi hj row hrow hmn v w8 loaded
  obtain ⟨m, hstore, hbytes⟩ := storeData_quiet hs hm o v w8
  refine ⟨_, exec_data hi s, fun u hu hmem hlo hhi => ⟨_, exec_data hj u, ?_⟩⟩
  rw [hmn, dataMeaning_store hrow o, hstore] at hmem
  obtain hmem : u.mem = m := hmem
  have read : operandValue (.mem q) w8 u = loaded :=
    valueAt_of_stored (address_ne o true s) (fun a => hmem ▸ hbytes a) hlo hhi
  refine ⟨fun hlda hw => ?_, fun hldx hw => ?_, fun hldy hw => ?_⟩
  · rw [hlda]
    refine (aluLda_a hu (.mem q)).trans ?_
    rw [hw, read]
    unfold mergeAcc loaded
    split
    · rw [loByte_zextByte]
    · rfl
  · rw [hldx]
    exact (aluLdx_x hu (.mem q)).trans (hw ▸ read)
  · rw [hldy]
    exact (aluLdy_y hu (.mem q)).trans (hw ▸ read)

end Sys2Proof.Machine
end

section
/-! The normal path of a step with no interrupt due (60_exceptions.md R317, R321; 20_memory.md R70). -/

namespace Sys2Proof.Machine

/-- What decodes is what the opcode and the three bytes after it decode to (R94). -/
theorem decodeOp_of_decode {m x : Bool} {op b1 b2 b3 : Byte} {i : Instr} {rest : List Byte}
    (h : decode m x [op, b1, b2, b3] = .ok (i, rest)) : decodeOp m x op ⟨b1, b2, b3⟩ = i := by
  simp only [decode] at h
  split at h
  · cases h
  · exact congrArg Prod.fst (Except.ok.inj h)

/-- With no interrupt due, the start poll, if there is one, wants none, and without it none was wanted (R321). -/
theorem startPoll_of_not_due {s : State} (h : interruptDue s = false) :
    startPoll { s with trace := [] } = { s with
      intWanted := false
      trace := if s.stepStartPoll then [.poll false] else [] } := by
  have hv : pollValue { s with trace := [] } = pollValue s := rfl
  have hint : (if s.stepStartPoll then pollValue s else s.intWanted) = false := h
  rw [startPoll, pollIf_eq, pollEvents, hv, hint]
  cases hp : s.stepStartPoll with
  | true =>
    rw [hp, if_pos rfl] at hint
    simp [hint]
  | false => simp

/-- The bytes the bus of a quiet host will give are those memory holds (R70, R103). -/
theorem peekByte_quiet {s : State} (h : Quiet s) (n : Nat) : peekByte s n = codeByte s n := answerAt_quiet h _ _

theorem peekOpcode_quiet {s : State} (h : Quiet s) : peekOpcode s = codeByte s 0 := by
  rw [peekOpcode, answerAt_quiet h, codeByte, pcAddr]
  simp

/-- The instruction the step runs is the one that the bytes at `K:PC` decode to (R94). -/
theorem nextInstr_of_decode {s : State} {i : Instr} {rest : List Byte} (h : Quiet s)
    (hd : decode s.fM s.fX [codeByte s 0, codeByte s 1, codeByte s 2, codeByte s 3] = .ok (i, rest)) :
    nextInstr s = i := by
  rw [nextInstr, peekOpcode_quiet h, peekByte_quiet h, peekByte_quiet h, peekByte_quiet h]
  exact decodeOp_of_decode hd

/-- Settles O7: no gate is closed, the start poll wants no interrupt, and the opcode's fetch precedes `exec`. -/
theorem stepRunsDecoded : Obligations.StepRunsDecoded := by
  intro s i rest hs hrun hdue hd
  rw [step_of_running hrun, startPoll_of_not_due hdue, serviceOrRun, if_neg Bool.false_ne_true,
    nextInstr_of_decode (by exact hs) (by exact hd), fetchOpcode, peekOpcode_quiet (by exact hs),
    fetchByte_quiet (by exact hs)]
  rfl

end Sys2Proof.Machine
end

section
/-! Encoding and decoding are inverse (30_encoding.md R90 to R97). The bytes of an instruction are its opcode and the
operand bytes of its format; each of the 256 opcodes is compared once with the encoder (`decodeOp_form`), and each
instruction once with the decoder (`decodeOp_of_encode`). -/

namespace Sys2Proof

open Machine

/-! ### Operands as bytes -/

/-- The bytes after an opcode, in ascending order (R90). -/
def OperandBytes.bytes (b : OperandBytes) : List Byte := [b.b1, b.b2, b.b3]

/-- The bytes the decoder looks at after the opcode, of a list that may be shorter. -/
def operandsAt (l : List Byte) : OperandBytes := ⟨l.getD 0 0, l.getD 1 0, l.getD 2 0⟩

theorem operandsAt_bytes_take {l : List Byte} {n : Nat} (hn : n ≤ 3) (hl : n ≤ l.length) :
    (operandsAt l).bytes.take n = l.take n := by
  have same_length : ((operandsAt l).bytes.take n).length = (l.take n).length := by
    rw [List.length_take_of_le hl, List.length_take_of_le hn]
  refine List.ext_getElem same_length fun k _ hk => ?_
  rw [List.length_take_of_le hl] at hk
  have hkl : k < l.length := hk.trans_le hl
  obtain rfl | rfl | rfl : k = 0 ∨ k = 1 ∨ k = 2 := by omega
  all_goals simp [operandsAt, OperandBytes.bytes, hkl]

theorem loByte_word (b : OperandBytes) : loByte b.word = b.b1 := loByte_mkWord _ _

theorem hiByte_word (b : OperandBytes) : hiByte b.word = b.b2 := hiByte_mkWord _ _

theorem addrOffset_long (b : OperandBytes) : addrOffset b.long = b.word := addrOffset_bankAddr _ _

theorem addrBank_long (b : OperandBytes) : addrBank b.long = b.b3 := addrBank_bankAddr _ _

theorem immBytes_imm (w8 : Bool) (b : OperandBytes) :
    immBytes w8 (b.imm w8) = b.bytes.take ((if w8 then 2 else 3) - 1) := by
  cases w8 with
  | false => simp [immBytes, OperandBytes.imm, OperandBytes.bytes, loByte_word, hiByte_word]
  | true => simp [immBytes, OperandBytes.imm, OperandBytes.bytes, loByte_zextByte]

/-- An immediate put together from its bytes fits its width (R92). -/
theorem immFits_imm (w8 : Bool) (b : OperandBytes) : immFits w8 (some (.imm (b.imm w8))) = true := by
  cases w8 with
  | false => rfl
  | true => exact beq_iff_eq.mpr (hiByte_zextByte b.b1)

/-! ### The bytes of an instruction give its opcode and its operand -/

theorem encByte_inj {op op' d d' : Byte} (h : encByte op d = encByte op' d') : op = op' ∧ d = d' := by
  simpa [encByte] using h

theorem encWord_inj {op op' : Byte} {a a' : Word} (h : encWord op a = encWord op' a') : op = op' ∧ a = a' := by
  obtain ⟨hop, hlo, hhi⟩ : op = op' ∧ loByte a = loByte a' ∧ hiByte a = hiByte a' := by simpa [encWord] using h
  exact ⟨hop, by rw [← mkWord_hi_lo a, hlo, hhi, mkWord_hi_lo]⟩

theorem encLong_inj {op op' : Byte} {a a' : Addr} (h : encLong op a = encLong op' a') : op = op' ∧ a = a' := by
  obtain ⟨hlow, hbank⟩ : encWord op (addrOffset a) = encWord op' (addrOffset a') ∧ addrBank a = addrBank a' := by
    simpa [encLong, encWord, and_assoc] using h
  obtain ⟨hop, hoff⟩ := encWord_inj hlow
  exact ⟨hop, by rw [← addr_bankAddr a, hoff, hbank, addr_bankAddr]⟩

/-- An 8-bit immediate that fits its byte is given by it (R93). -/
theorem immBytes_inj {w8 : Bool} {op op' : Byte} {c c' : Word} (hc : immFits w8 (some (.imm c)) = true)
    (hc' : immFits w8 (some (.imm c')) = true) (h : op :: immBytes w8 c = op' :: immBytes w8 c') :
    op = op' ∧ c = c' := by
  cases w8 with
  | false => exact encWord_inj h
  | true =>
    obtain ⟨hop, hlo⟩ : op = op' ∧ loByte c = loByte c' := by simpa [immBytes] using h
    exact ⟨hop, by rw [← zextByte_loByte (beq_iff_eq.mp hc), hlo, zextByte_loByte (beq_iff_eq.mp hc')]⟩

theorem banks_inj {op op' d d' e e' : Byte} (h : [op, d, e] = [op', d', e']) : op = op' ∧ d = d' ∧ e = e' := by
  simpa using h

/-! ### The seven formats (R91) -/

/-- The bytes of a format's instruction with an opcode and an operand put together from operand bytes (R91, R92). -/
def formatBytes (m x : Bool) (op : Byte) (b : OperandBytes) : Format → List Byte
  | .f1 => [op]
  | .f2 => encByte op b.b1
  | .f3 => encWord op b.word
  | .f4 => encLong op b.long
  | .fm => op :: immBytes m (b.imm m)
  | .fx => op :: immBytes x (b.imm x)
  | .fb => [op, b.b1, b.b2]

/-- Do operand bytes give a format an immediate that fits its width (R93)? -/
def formatFits (m x : Bool) (b : OperandBytes) : Format → Bool
  | .fm => immFits m (some (.imm (b.imm m)))
  | .fx => immFits x (some (.imm (b.imm x)))
  | .f1 | .f2 | .f3 | .f4 | .fb => true

theorem formatFits_eq_true (m x : Bool) (b : OperandBytes) (f : Format) : formatFits m x b f = true := by
  cases f with
  | fm => exact immFits_imm m b
  | fx => exact immFits_imm x b
  | f1 | f2 | f3 | f4 | fb => rfl

/-- A format's bytes are the opcode and as many of the bytes after it as the format's length says. -/
theorem formatBytes_eq (m x : Bool) (op : Byte) (b : OperandBytes) (f : Format) :
    formatBytes m x op b f = op :: b.bytes.take (formatLength m x f - 1) := by
  cases f with
  | f1 | f2 | fb => rfl
  | f3 => simp [formatBytes, formatLength, encWord, OperandBytes.bytes, loByte_word, hiByte_word]
  | f4 =>
    simp [formatBytes, formatLength, encLong, OperandBytes.bytes, addrOffset_long, addrBank_long, loByte_word,
      hiByte_word]
  | fm => exact congrArg (op :: ·) (immBytes_imm m b)
  | fx => exact congrArg (op :: ·) (immBytes_imm x b)

theorem formatLength_bounds (m x : Bool) (f : Format) : 1 ≤ formatLength m x f ∧ formatLength m x f ≤ 4 := by
  cases f with
  | fm => cases m <;> simp [formatLength]
  | fx => cases x <;> simp [formatLength]
  | f1 | f2 | f3 | f4 | fb => simp [formatLength]

/-- Only an immediate's format has a length that follows a flag (R93). -/
theorem formatLength_fixed {f : Format} (hm : f ≠ .fm) (hx : f ≠ .fx) (m x m' x' : Bool) :
    formatLength m x f = formatLength m' x' f := by
  cases f with
  | fm => exact absurd rfl hm
  | fx => exact absurd rfl hx
  | f1 | f2 | f3 | f4 | fb => rfl

/-! ### The opcode map (R96) -/

/-- The format column of R96 by the two nibbles of the opcode. The low nibble decides it (for $x9 with
the parity of the row), but for the opcodes listed first. -/
def opcodeFormat (op : Byte) : Format :=
  match op.toNat / 16, op.toNat % 16 with
  | 0x4, 0x0 | 0x6, 0x0 => .f1
  | 0x2, 0x0 | 0x6, 0x2 | 0x8, 0x2 | 0xF, 0x4 => .f3
  | 0x2, 0x2 | 0x5, 0xC => .f4
  | 0x4, 0x4 | 0x5, 0x4 => .fb
  | 0xA, 0x0 | 0xA, 0x2 | 0xC, 0x0 | 0xE, 0x0 => .fx
  | hi, 0x9 => if hi % 2 = 0 then .fm else .f3
  | _, 0x8 | _, 0xA | _, 0xB => .f1
  | _, 0xC | _, 0xD | _, 0xE => .f3
  | _, 0xF => .f4
  | _, _ => .f2

/-- What holds for every pair of nibbles holds for every opcode. -/
theorem byte_of_nibbles {P : Byte → Prop} (h : ∀ hi < 16, ∀ lo < 16, P (BitVec.ofNat 8 (16 * hi + lo)))
    (op : Byte) : P op := by
  have hlt := op.isLt
  have hop : BitVec.ofNat 8 (16 * (op.toNat / 16) + op.toNat % 16) = op := by
    rw [Nat.div_add_mod, BitVec.ofNat_toNat, BitVec.setWidth_eq]
  exact hop ▸ h (op.toNat / 16) (by omega) (op.toNat % 16) (by omega)

/-- The instruction of an opcode: its format, its bytes, and when it is well-formed. -/
theorem decodeOp_form (m x : Bool) (op : Byte) (b : OperandBytes) :
    formatOf (decodeOp m x op b) = opcodeFormat op ∧
      encode m x (decodeOp m x op b) = formatBytes m x op b (opcodeFormat op) ∧
      (decodeOp m x op b).wf m x = formatFits m x b (opcodeFormat op) := by
  induction op using byte_of_nibbles with
  | h hi hhi lo hlo => interval_cases hi <;> interval_cases lo <;> exact ⟨rfl, rfl, rfl⟩

theorem formatOf_decodeOp (m x : Bool) (op : Byte) (b : OperandBytes) :
    formatOf (decodeOp m x op b) = opcodeFormat op := (decodeOp_form m x op b).1

theorem wf_decodeOp (m x : Bool) (op : Byte) (b : OperandBytes) : (decodeOp m x op b).wf m x = true := by
  obtain ⟨-, -, hwf⟩ := decodeOp_form m x op b
  rw [hwf, formatFits_eq_true]

theorem encode_decodeOp (m x : Bool) (op : Byte) (b : OperandBytes) :
    encode m x (decodeOp m x op b) =
      op :: b.bytes.take (instrLength m x (decodeOp m x op b) - 1) := by
  obtain ⟨hformat, hencode, -⟩ := decodeOp_form m x op b
  rw [hencode, formatBytes_eq, instrLength, hformat]

/-! ### The instructions -/

/-- The opcode and the operand that an instruction's bytes hold decode to it, format by format. -/
theorem decodeOp_of_encode {m x : Bool} {op : Byte} {b : OperandBytes} {i : Instr} (hwf : i.wf m x = true)
    (h : encode m x i = formatBytes m x op b (formatOf i)) : decodeOp m x op b = i := by
  cases i
  case php | aslAcc | phd | clc | incAcc | tcs | plp | rolAcc | pld | sec | decAcc | tsc | rti | pha | lsrAcc | phk
    | cli | phy | tcd | rts | pla | rorAcc | rtl | sei | ply | tdc | dey | txa | phb | tya | txs | txy | tay | tax |
    plb | clv | tsx | tyx | iny | dex | wai | cld | phx | stp | inx | nop | xba | sed | plx | xce =>
    obtain rfl := List.head_eq_of_cons_eq h
    rfl
  case tsbAbs | oraAbs | aslAbs | oraAby | trbAbs | oraAbx | aslAbx | jsrAbs | bitAbs | andAbs | rolAbs | andAby |
    bitAbx | andAbx | rolAbx | jmpAbs | eorAbs | lsrAbs | eorAby | eorAbx | lsrAbx | per | jmpInd | adcAbs | rorAbs
    | adcAby | jmpIax | adcAbx | rorAbx | brl | styAbs | staAbs | stxAbs | staAby | stzAbs | staAbx | stzAbx |
    ldyAbs | ldaAbs | ldxAbs | ldaAby | ldyAbx | ldaAbx | ldxAby | cpyAbs | cmpAbs | decAbs | cmpAby | jmlInd |
    cmpAbx | decAbx | cpxAbs | sbcAbs | incAbs | pea | sbcAby | jsrIax | sbcAbx | incAbx =>
    obtain ⟨rfl, rfl⟩ := encWord_inj h
    rfl
  case oraAbl | oraAlx | jsl | andAbl | andAlx | eorAbl | jmlLong | eorAlx | adcAbl | adcAlx | staAbl | staAlx |
    ldaAbl | ldaAlx | cmpAbl | cmpAlx | sbcAbl | sbcAlx =>
    obtain ⟨rfl, rfl⟩ := encLong_inj h
    rfl
  case oraImm | andImm | eorImm | adcImm | bitImm | ldaImm | cmpImm | sbcImm =>
    obtain ⟨rfl, rfl⟩ := immBytes_inj hwf (immFits_imm m b) h
    rfl
  case ldyImm | ldxImm | cpyImm | cpxImm =>
    obtain ⟨rfl, rfl⟩ := immBytes_inj hwf (immFits_imm x b) h
    rfl
  case mvp | mvn =>
    obtain ⟨rfl, rfl, rfl⟩ := banks_inj h
    rfl
  -- All others are of format F2.
  all_goals
    obtain ⟨rfl, rfl⟩ := encByte_inj h
    rfl

theorem cons_immBytes_length (op : Byte) (w8 : Bool) (c : Word) :
    (op :: immBytes w8 c).length = if w8 then 2 else 3 := by
  cases w8 <;> rfl

/-- An instruction has as many bytes as its format says (R91, R93). -/
theorem encode_length (m x : Bool) (i : Instr) : (encode m x i).length = instrLength m x i := by
  cases i
  case oraImm | andImm | eorImm | adcImm | bitImm | ldaImm | cmpImm | sbcImm | ldyImm | ldxImm | cpyImm | cpxImm =>
    exact cons_immBytes_length _ _ _
  all_goals rfl

/-- The bytes of an instruction begin with its opcode. -/
theorem exists_encode_eq_cons (m x : Bool) (i : Instr) :
    ∃ op ops, encode m x i = op :: ops ∧ ops.length = instrLength m x i - 1 := by
  obtain ⟨hpos, -⟩ : 1 ≤ instrLength m x i ∧ instrLength m x i ≤ 4 := formatLength_bounds m x _
  obtain ⟨op, ops, hbytes, hops⟩ :=
    List.length_eq_succ_iff.mp ((encode_length m x i).trans (Nat.sub_add_cancel hpos).symm)
  exact ⟨op, ops, hbytes.symm, hops⟩

/-! ### Byte lists -/

theorem decode_cons_eq_ok_iff {m x : Bool} {op : Byte} {l rest : List Byte} {i : Instr} :
    decode m x (op :: l) = .ok (i, rest) ↔
      decodeOp m x op (operandsAt l) = i ∧ instrLength m x i - 1 ≤ l.length ∧
        l.drop (instrLength m x i - 1) = rest := by
  unfold decode
  dsimp only
  constructor
  · intro h
    split at h
    · cases h
    · cases h
      exact ⟨rfl, by omega, rfl⟩
  · rintro ⟨rfl, hlen, rfl⟩
    exact if_neg (Nat.not_lt.mpr hlen)

/-- Settles O1: the bytes after the opcode are those of the instruction's format, so `decodeOp_of_encode` applies. -/
theorem decodeEncode : Obligations.DecodeEncode := by
  intro m x i rest hwf
  obtain ⟨op, ops, hbytes, hops⟩ := exists_encode_eq_cons m x i
  have hmax : instrLength m x i ≤ 4 := (formatLength_bounds m x _).2
  have hread : (operandsAt (ops ++ rest)).bytes.take (instrLength m x i - 1) = ops := by
    rw [operandsAt_bytes_take (by omega) (by rw [List.length_append]; omega), ← hops, List.take_left]
  have hencode : encode m x i = formatBytes m x op (operandsAt (ops ++ rest)) (formatOf i) := by
    rw [formatBytes_eq, ← instrLength, hread, hbytes]
  rw [hbytes, List.cons_append]
  refine decode_cons_eq_ok_iff.mpr ⟨decodeOp_of_encode hwf hencode, by rw [List.length_append]; omega, ?_⟩
  rw [← hops, List.drop_left]

/-- Settles O2: what an opcode decodes to encodes to it and the operand bytes, which the list begins with. -/
theorem encodeDecode : Obligations.EncodeDecode := by
  intro m x bytes rest i h
  cases bytes with
  | nil => cases h
  | cons op l =>
    obtain ⟨rfl, hlen, rfl⟩ := decode_cons_eq_ok_iff.mp h
    obtain ⟨-, hmax⟩ := formatLength_bounds m x (formatOf (decodeOp m x op (operandsAt l)))
    refine ⟨wf_decodeOp .., ?_⟩
    rw [encode_decodeOp, operandsAt_bytes_take (Nat.sub_le_of_le_add hmax) hlen, List.cons_append,
      List.take_append_drop]

/-- Settles O3: an instruction has one to four bytes, so three after the opcode are enough. -/
theorem noIllegalOpcode : Obligations.NoIllegalOpcode := by
  intro m x op b1 b2 b3 rest
  let i := decodeOp m x op ⟨b1, b2, b3⟩
  obtain ⟨hpos, hmax⟩ : 1 ≤ instrLength m x i ∧ instrLength m x i ≤ 4 := formatLength_bounds m x _
  refine ⟨i, instrLength m x i, hpos, hmax, decode_cons_eq_ok_iff.mpr ⟨rfl, ?_, ?_⟩⟩
  · simp only [List.length_cons]
    omega
  · rw [← List.drop_succ_cons (a := op), Nat.sub_add_cancel hpos]

/-! ### Lengths -/

theorem encode_decodeOp_length (m x : Bool) (op : Byte) (b : OperandBytes) :
    (encode m x (decodeOp m x op b)).length = formatLength m x (opcodeFormat op) := by
  rw [encode_length, instrLength, formatOf_decodeOp]

theorem opcodeFormat_fm :
    ∀ op ∈ [0x09#8, 0x29#8, 0x49#8, 0x69#8, 0x89#8, 0xA9#8, 0xC9#8, 0xE9#8], opcodeFormat op = .fm := by decide

theorem opcodeFormat_fx : ∀ op ∈ [0xA0#8, 0xA2#8, 0xC0#8, 0xE0#8], opcodeFormat op = .fx := by decide

theorem opcodeFormat_fixed : ∀ op : Byte,
    op ∉ [0x09#8, 0x29#8, 0x49#8, 0x69#8, 0x89#8, 0xA9#8, 0xC9#8, 0xE9#8, 0xA0#8, 0xA2#8, 0xC0#8, 0xE0#8] →
      opcodeFormat op ≠ .fm ∧ opcodeFormat op ≠ .fx := by decide

/-- Settles O4: the length is that of the opcode's format, which does not depend on the flags. -/
theorem immediateLength : Obligations.ImmediateLength := by
  intro m x m' x' op b
  refine ⟨fun hop => ?_, fun hop => ?_, fun hop => ?_⟩
  · rw [encode_decodeOp_length, opcodeFormat_fm op hop, formatLength]
  · rw [encode_decodeOp_length, opcodeFormat_fx op hop, formatLength]
  · obtain ⟨hm, hx⟩ := opcodeFormat_fixed op hop
    rw [encode_decodeOp_length, encode_decodeOp_length]
    exact formatLength_fixed hm hx ..

/-! ### Words -/

/-- Settles O5: each byte list is the encoding of its instruction, with what is left behind it. -/
theorem opcodeWords : Obligations.OpcodeWords :=
  ⟨decodeEncode false false (.oraImm 0x800F) [] rfl,
    decodeEncode true false (.oraImm 0x000F) [0x80] rfl,
    decodeEncode false false (.ldxImm 0x01EF) [] rfl,
    decodeEncode true true (.staAbl 0x123456) [] rfl,
    decodeEncode true true (.mvn 0x7F 0x7E) [] rfl,
    decodeEncode true true (.jsl 0x7E9000) [] rfl,
    decodeEncode true true (.per 0xFFFD) [] rfl,
    decodeEncode true true (.aslDpx 0x10) [] rfl,
    decodeEncode true true (.rep 0x30) [] rfl,
    decodeEncode true true .rti [] rfl⟩

end Sys2Proof
end

section
/-! The addressing-mode calculators whatever the host does inside their bus cycles (40_addressing_modes.md R110): one
relation that composes, a lemma for each of the operations a calculator is made of, and the fifteen calculators. -/

namespace Sys2Proof.Machine

/-- `t` is `s` with PC `n` bytes further on, but for the request latches, the acts of the host and the record of
events: what bus cycles without a poll can do. -/
def MovesPc (n : Word) (s t : State) : Prop :=
  ∃ nmi irq ticks tr, t = { s with
    pc := s.pc + n
    nmiWanted := nmi
    irqWanted := irq
    hostTicks := ticks
    trace := tr }

theorem MovesPc.refl (s : State) : MovesPc 0 s s := ⟨_, _, _, _, by rw [add_zero]⟩

theorem MovesPc.trans {n m : Word} {s t u : State} (h : MovesPc n s t) (g : MovesPc m t u) : MovesPc (n + m) s u := by
  obtain ⟨_, _, _, _, rfl⟩ := h
  obtain ⟨_, _, _, _, rfl⟩ := g
  exact ⟨_, _, _, _, by rw [BitVec.add_assoc]⟩

theorem cycle_movesPc (e : Event) (s : State) : MovesPc 0 s (cycle e s) := ⟨_, _, _, _, by rw [add_zero]; rfl⟩

theorem idle_movesPc (s : State) : MovesPc 0 s (idle s) := cycle_movesPc _ s

theorem busRead_movesPc (r : Addr) (s : State) : MovesPc 0 s (busRead r s).2 := cycle_movesPc _ s

theorem fetchByte_movesPc (b : Byte) (s : State) : MovesPc 1 s (fetchByte b s) := ⟨_, _, _, _, rfl⟩

theorem fetchWord_movesPc (w : Word) (s : State) : MovesPc 2 s (fetchWord w false s) :=
  (fetchByte_movesPc _ s).trans (fetchByte_movesPc _ _)

theorem fetchLong_movesPc (a : Addr) (s : State) :
    MovesPc 3 s (fetchByte (addrBank a) (fetchWord (addrOffset a) false s)) :=
  (fetchWord_movesPc _ s).trans (fetchByte_movesPc _ _)

theorem dpIdle_movesPc (s : State) : MovesPc 0 s (dpIdle s) := by
  unfold dpIdle
  split
  · exact .refl s
  · exact idle_movesPc s

theorem penalty_movesPc (base index : Word) (write : Bool) (s : State) :
    MovesPc 0 s (penalty base index write s) := by
  unfold penalty
  split
  · exact idle_movesPc s
  · exact .refl s

theorem fetchDp_movesPc (d : Byte) (s : State) : MovesPc 1 s (fetchDp d s) :=
  (fetchByte_movesPc d s).trans (dpIdle_movesPc _)

theorem fetchDpIdle_movesPc (d : Byte) (s : State) : MovesPc 1 s (idle (fetchDp d s)) :=
  (fetchDp_movesPc d s).trans (idle_movesPc _)

theorem fetchSrIdle_movesPc (d : Byte) (s : State) : MovesPc 1 s (idle (fetchByte d s)) :=
  (fetchByte_movesPc d s).trans (idle_movesPc _)

theorem readPointer_movesPc (off : Word) (s : State) : MovesPc 0 s (readPointer off s).2 :=
  (busRead_movesPc _ s).trans (busRead_movesPc _ _)

theorem readLongPointer_movesPc (off : Word) (s : State) : MovesPc 0 s (readLongPointer off s).2 :=
  (readPointer_movesPc off s).trans (busRead_movesPc _ _)

/-- Settles O22: each calculator is the fetch of its operand bytes, then idles and pointer reads, none with a poll. -/
theorem calculatorFrame : Obligations.CalculatorFrame := by
  intro o write s
  change MovesPc (memOperandLength o) s (address o write s).2
  cases o with
  | dp d => exact fetchDp_movesPc d s
  | dpx d | dpy d => exact fetchDpIdle_movesPc d s
  | idp d => exact (fetchDp_movesPc d s).trans (readPointer_movesPc _ _)
  | idx d => exact (fetchDpIdle_movesPc d s).trans (readPointer_movesPc _ _)
  | idy d => exact ((fetchDp_movesPc d s).trans (readPointer_movesPc _ _)).trans (penalty_movesPc _ _ _ _)
  | idl d | ily d => exact (fetchDp_movesPc d s).trans (readLongPointer_movesPc _ _)
  | sr d => exact fetchSrIdle_movesPc d s
  | isy d => exact ((fetchSrIdle_movesPc d s).trans (readPointer_movesPc _ _)).trans (idle_movesPc _)
  | abs a => exact fetchWord_movesPc a s
  | abx a | aby a => exact (fetchWord_movesPc a s).trans (penalty_movesPc _ _ _ _)
  | abl a | alx a => exact fetchLong_movesPc a s

end Sys2Proof.Machine
end

section
/-! The addresses of an operand as numbers (20_memory.md R66; 40_addressing_modes.md R110): what the address pairs and
the pointers of the calculators are modulo the size of their space. -/

namespace Sys2Proof.Machine

/-! ### Address pairs -/

theorem toNat_add_of_mod {w n : Nat} {a : BitVec w} (h : a.toNat = n % 2 ^ w) (b : BitVec w) :
    (a + b).toNat = (n + b.toNat) % 2 ^ w := by
  rw [BitVec.toNat_add, h, Nat.mod_add_mod]

theorem pairIs_directPair {off : Word} {n : Nat} (h : off.toNat = n % 0x10000) : PairIs (directPair off) n 0x10000 :=
  ⟨(bank0_toNat off).trans h, (bank0_toNat _).trans (toNat_add_of_mod h 1)⟩

theorem pairIs_longPair {a : Addr} {n : Nat} (h : a.toNat = n % 0x1000000) : PairIs (longPair a) n 0x1000000 :=
  ⟨h, toNat_add_of_mod h 1⟩

/-- A 16-bit index added to a 24-bit address carries into the bank (R86). -/
theorem addIndex_toNat (a : Addr) (index : Word) :
    (a + index.setWidth 24).toNat = (a.toNat + index.toNat) % 0x1000000 := by
  have := index.isLt
  rw [BitVec.toNat_add, BitVec.toNat_setWidth]
  omega

theorem pairIs_indexedPair (bank : Byte) (base index : Word) :
    PairIs (indexedPair bank base index) (bank.toNat * 0x10000 + base.toNat + index.toNat) 0x1000000 :=
  pairIs_longPair (by rw [addIndex_toNat, bankAddr_toNat])

theorem pairIs_indexedPair_zero (bank : Byte) (base : Word) :
    PairIs (indexedPair bank base 0#16) (bank.toNat * 0x10000 + base.toNat) 0x1000000 := by
  simpa using pairIs_indexedPair bank base 0#16

/-! ### Offsets and pointers in bank 0 -/

theorem addByte_toNat (base : Word) (d : Byte) : (base + zextByte d).toNat = (base.toNat + d.toNat) % 0x10000 := by
  rw [BitVec.toNat_add, zextByte_toNat]

theorem addByte_addWord_toNat (base : Word) (d : Byte) (index : Word) :
    (base + zextByte d + index).toNat = (base.toNat + d.toNat + index.toNat) % 0x10000 :=
  toNat_add_of_mod (addByte_toNat base d) index

/-- The 16-bit pointer at an offset in bank 0. -/
def pointerWord (s : State) (off : Word) : Word := wordAt s.mem (bank0 off) (bank0 (off + 1))

/-- The byte after that pointer: the bank of a 24-bit pointer (R118). -/
def pointerBank (s : State) (off : Word) : Byte := memRead s.mem (bank0 (off + 2)).toNat

theorem pointerWord_toNat (s : State) {off : Word} {n : Nat} (h : off.toNat = n % 0x10000) :
    (pointerWord s off).toNat = pointerAt s n := by
  have hhi : (off + 1).toNat = (n + 1) % 0x10000 := toNat_add_of_mod h 1
  rw [pointerWord, wordAt, mkWord_toNat, bank0_toNat, bank0_toNat, h, hhi, pointerAt]
  omega

theorem longPointer_toNat (s : State) {off : Word} {n : Nat} (h : off.toNat = n % 0x10000) :
    (bankAddr (pointerBank s off) (pointerWord s off)).toNat = longPointerAt s n := by
  have hbank : (off + 2).toNat = (n + 2) % 0x10000 := toNat_add_of_mod h 2
  rw [bankAddr_toNat, pointerWord_toNat s h, pointerBank, bank0_toNat, hbank, longPointerAt]
  omega

end Sys2Proof.Machine
end

section
/-! The addressing-mode calculators while the host only answers from its memory (40_addressing_modes.md R112 to R126,
R129): each operation a calculator is made of adds its events to the record, and a calculator is run by these rules. -/

namespace Sys2Proof.Machine

/-- The page-cross condition of R129: the model compares the high bytes, the statements the numbers. -/
theorem penalty_condition (s : State) (base index : Word) (write : Bool) :
    (write || !s.fX || hiByte base != hiByte (base + index)) = true ↔
      write = true ∨ s.fX = false ∨ base.toNat / 0x100 ≠ (base.toNat + index.toNat) / 0x100 % 0x100 := by
  have hhi : hiByte base ≠ hiByte (base + index) ↔
      base.toNat / 0x100 ≠ (base.toNat + index.toNat) / 0x100 % 0x100 := by
    rw [ne_eq, ← BitVec.toNat_inj, hiByte_toNat, hiByte_toNat, BitVec.toNat_add]
    omega
  simp only [Bool.or_eq_true, Bool.not_eq_true', bne_iff_ne, hhi, or_assoc]

/-- `s` once `n` more instruction bytes are fetched and `evs` are recorded. -/
def afterEvents (n : Word) (evs : List Event) (s : State) : State :=
  { s with pc := s.pc + n, trace := s.trace ++ evs }

section Operations

variable (n : Word) (evs : List Event) (s : State)

@[simp] theorem afterEvents_x : (afterEvents n evs s).x = s.x := rfl
@[simp] theorem afterEvents_y : (afterEvents n evs s).y = s.y := rfl
@[simp] theorem afterEvents_sp : (afterEvents n evs s).sp = s.sp := rfl
@[simp] theorem afterEvents_dp : (afterEvents n evs s).dp = s.dp := rfl
@[simp] theorem afterEvents_db : (afterEvents n evs s).db = s.db := rfl

variable {n evs s} (h : Quiet s)
include h

theorem afterEvents_idle : idle (afterEvents n evs s) = afterEvents n (evs ++ [.idle false]) s := by
  rw [idle_quiet (by exact h)]
  simp only [afterEvents, List.append_assoc]

theorem afterEvents_readPointer (off : Word) :
    readPointer off (afterEvents n evs s) = (pointerWord s off, afterEvents n (evs ++ pointerEvents s off) s) := by
  rw [readPointer_quiet (by exact h)]
  simp only [afterEvents, pointerWord, pointerEvents, List.append_assoc]

theorem afterEvents_readLongPointer (off : Word) :
    readLongPointer off (afterEvents n evs s) = (bankAddr (pointerBank s off) (pointerWord s off),
      afterEvents n (evs ++ (pointerEvents s off ++ [.read (bank0 (off + 2)) (pointerBank s off)])) s) := by
  rw [readLongPointer_quiet (by exact h)]
  simp only [afterEvents, pointerWord, pointerBank, pointerEvents, List.append_assoc, List.cons_append, List.nil_append]

theorem afterEvents_penalty (base index : Word) (write : Bool) :
    penalty base index write (afterEvents n evs s) = afterEvents n (evs ++ penaltyEvents base index write s) s := by
  rw [penalty_quiet (by exact h)]
  simp only [afterEvents, penaltyEvents, penalty_condition, List.append_assoc]

theorem fetchByte_eq_afterEvents (d : Byte) : fetchByte d s = afterEvents 1 [fetchEvent s 0 d] s := by
  rw [fetchByte_quiet h, fetchEvent_zero, afterEvents]

theorem fetchDp_eq_afterEvents (d : Byte) : fetchDp d s = afterEvents 1 (fetchEvent s 0 d :: dpIdleEvents s) s := by
  rw [fetchDp_quiet h, fetchEvent_zero, afterEvents, dpIdleEvents]

theorem fetchWord_eq_afterEvents (w : Word) :
    fetchWord w false s = afterEvents 2 [fetchEvent s 0 (loByte w), fetchEvent s 1 (hiByte w)] s := by
  rw [fetchWord_quiet h, fetchEvent_zero]
  simp only [afterEvents, fetchEvent, pollEvents, Bool.false_eq_true, if_false, List.append_assoc, List.cons_append,
    List.nil_append]

theorem fetchLong_eq_afterEvents (a : Addr) :
    fetchByte (addrBank a) (fetchWord (addrOffset a) false s) =
      afterEvents 3 [fetchEvent s 0 (loByte (addrOffset a)), fetchEvent s 1 (hiByte (addrOffset a)),
        fetchEvent s 2 (addrBank a)] s := by
  rw [fetchWord_eq_afterEvents h, fetchByte_quiet (by exact h)]
  simp only [afterEvents, add_two_one, List.append_assoc, List.cons_append, List.nil_append]
  rfl

end Operations

/-! ### The calculators -/

section Calculators

variable {s : State} (h : Quiet s)
include h

theorem adrDp_quiet (d : Byte) :
    adrDp d s = (directPair (s.dp + zextByte d), afterEvents 1 (fetchEvent s 0 d :: dpIdleEvents s) s) := by
  simp only [adrDp, fetchDp_eq_afterEvents h, afterEvents_dp]

theorem adrDpx_quiet (d : Byte) :
    adrDpx d s = (directPair (s.dp + zextByte d + s.x),
      afterEvents 1 (fetchEvent s 0 d :: (dpIdleEvents s ++ [.idle false])) s) := by
  simp only [adrDpx, fetchDp_eq_afterEvents h, afterEvents_idle h, afterEvents_dp, afterEvents_x, List.cons_append]

theorem adrDpy_quiet (d : Byte) :
    adrDpy d s = (directPair (s.dp + zextByte d + s.y),
      afterEvents 1 (fetchEvent s 0 d :: (dpIdleEvents s ++ [.idle false])) s) := by
  simp only [adrDpy, fetchDp_eq_afterEvents h, afterEvents_idle h, afterEvents_dp, afterEvents_y, List.cons_append]

theorem adrIdp_quiet (d : Byte) :
    adrIdp d s = (indexedPair s.db (pointerWord s (s.dp + zextByte d)) 0#16,
      afterEvents 1 (fetchEvent s 0 d :: (dpIdleEvents s ++ pointerEvents s (s.dp + zextByte d))) s) := by
  simp only [adrIdp, fetchDp_eq_afterEvents h, afterEvents_readPointer h, afterEvents_dp, afterEvents_db,
    List.cons_append]

theorem adrIdx_quiet (d : Byte) :
    adrIdx d s = (indexedPair s.db (pointerWord s (s.dp + zextByte d + s.x)) 0#16,
      afterEvents 1 (fetchEvent s 0 d ::
        (dpIdleEvents s ++ .idle false :: pointerEvents s (s.dp + zextByte d + s.x))) s) := by
  simp only [adrIdx, fetchDp_eq_afterEvents h, afterEvents_idle h, afterEvents_readPointer h, afterEvents_dp,
    afterEvents_x, afterEvents_db, List.cons_append, List.append_assoc, List.nil_append]

theorem adrIdy_quiet (d : Byte) (write : Bool) :
    adrIdy d write s = (indexedPair s.db (pointerWord s (s.dp + zextByte d)) s.y,
      afterEvents 1 (fetchEvent s 0 d :: (dpIdleEvents s ++ (pointerEvents s (s.dp + zextByte d) ++
        penaltyEvents (pointerWord s (s.dp + zextByte d)) s.y write s))) s) := by
  simp only [adrIdy, fetchDp_eq_afterEvents h, afterEvents_readPointer h, afterEvents_penalty h, afterEvents_dp,
    afterEvents_y, afterEvents_db, List.cons_append, List.append_assoc]

theorem adrIdl_quiet (d : Byte) :
    adrIdl d s = (longPair (bankAddr (pointerBank s (s.dp + zextByte d)) (pointerWord s (s.dp + zextByte d))),
      afterEvents 1 (fetchEvent s 0 d :: (dpIdleEvents s ++ (pointerEvents s (s.dp + zextByte d) ++
        [.read (bank0 (s.dp + zextByte d + 2)) (pointerBank s (s.dp + zextByte d))]))) s) := by
  simp only [adrIdl, fetchDp_eq_afterEvents h, afterEvents_readLongPointer h, afterEvents_dp, List.cons_append]

theorem adrIly_quiet (d : Byte) :
    adrIly d s = (longPair (bankAddr (pointerBank s (s.dp + zextByte d)) (pointerWord s (s.dp + zextByte d)) +
        s.y.setWidth 24),
      afterEvents 1 (fetchEvent s 0 d :: (dpIdleEvents s ++ (pointerEvents s (s.dp + zextByte d) ++
        [.read (bank0 (s.dp + zextByte d + 2)) (pointerBank s (s.dp + zextByte d))]))) s) := by
  simp only [adrIly, fetchDp_eq_afterEvents h, afterEvents_readLongPointer h, afterEvents_dp, afterEvents_y,
    List.cons_append]

theorem adrSr_quiet (d : Byte) :
    adrSr d s = (directPair (s.sp + zextByte d), afterEvents 1 [fetchEvent s 0 d, .idle false] s) := by
  simp only [adrSr, fetchByte_eq_afterEvents h, afterEvents_idle h, afterEvents_sp, List.cons_append, List.nil_append]

theorem adrIsy_quiet (d : Byte) :
    adrIsy d s = (indexedPair s.db (pointerWord s (s.sp + zextByte d)) s.y,
      afterEvents 1 (fetchEvent s 0 d :: .idle false :: (pointerEvents s (s.sp + zextByte d) ++ [.idle false])) s) := by
  simp only [adrIsy, fetchByte_eq_afterEvents h, afterEvents_idle h, afterEvents_readPointer h, afterEvents_sp,
    afterEvents_y, afterEvents_db, List.cons_append, List.nil_append]

theorem adrAbs_quiet (a : Word) :
    adrAbs a s = (indexedPair s.db a 0#16,
      afterEvents 2 [fetchEvent s 0 (loByte a), fetchEvent s 1 (hiByte a)] s) := by
  simp only [adrAbs, fetchWord_eq_afterEvents h, afterEvents_db]

theorem adrAbx_quiet (a : Word) (write : Bool) :
    adrAbx a write s = (indexedPair s.db a s.x,
      afterEvents 2 (fetchEvent s 0 (loByte a) :: fetchEvent s 1 (hiByte a) :: penaltyEvents a s.x write s) s) := by
  simp only [adrAbx, fetchWord_eq_afterEvents h, afterEvents_penalty h, afterEvents_x, afterEvents_db, List.cons_append,
    List.nil_append]

theorem adrAby_quiet (a : Word) (write : Bool) :
    adrAby a write s = (indexedPair s.db a s.y,
      afterEvents 2 (fetchEvent s 0 (loByte a) :: fetchEvent s 1 (hiByte a) :: penaltyEvents a s.y write s) s) := by
  simp only [adrAby, fetchWord_eq_afterEvents h, afterEvents_penalty h, afterEvents_y, afterEvents_db, List.cons_append,
    List.nil_append]

theorem adrAbl_quiet (a : Addr) :
    adrAbl a s = (longPair a, afterEvents 3 [fetchEvent s 0 (loByte (addrOffset a)),
      fetchEvent s 1 (hiByte (addrOffset a)), fetchEvent s 2 (addrBank a)] s) := by
  simp only [adrAbl, fetchLong_eq_afterEvents h]

theorem adrAlx_quiet (a : Addr) :
    adrAlx a s = (longPair (a + s.x.setWidth 24), afterEvents 3 [fetchEvent s 0 (loByte (addrOffset a)),
      fetchEvent s 1 (hiByte (addrOffset a)), fetchEvent s 2 (addrBank a)] s) := by
  simp only [adrAlx, fetchLong_eq_afterEvents h, afterEvents_x]

end Calculators

/-! ### The statements -/

/-- Settles O23: each calculator's lemma gives its events and its pair, and the pair's addresses as numbers are those
of its formula. -/
theorem directPageModes : Obligations.DirectPageModes := by
  intro s d write h
  have hoff := addByte_toNat s.dp d
  have hoffX := addByte_addWord_toNat s.dp d s.x
  have hoffY := addByte_addWord_toNat s.dp d s.y
  refine ⟨⟨_, (adrDp_quiet h d).trans ?dp, pairIs_directPair hoff⟩, ⟨_, adrDpx_quiet h d, pairIs_directPair hoffX⟩,
    ⟨_, adrDpy_quiet h d, pairIs_directPair hoffY⟩, ⟨_, adrIdp_quiet h d, ?idp⟩, ⟨_, adrIdx_quiet h d, ?idx⟩,
    ⟨_, adrIdy_quiet h d write, ?idy⟩, ⟨_, adrIdl_quiet h d, ?idl⟩, ⟨_, adrIly_quiet h d, ?ily⟩⟩
  case dp => simp only [afterEvents, List.append_nil]
  case idp =>
    rw [← pointerWord_toNat s hoff]
    exact pairIs_indexedPair_zero _ _
  case idx =>
    rw [← pointerWord_toNat s hoffX]
    exact pairIs_indexedPair_zero _ _
  case idy =>
    rw [← pointerWord_toNat s hoff]
    exact pairIs_indexedPair _ _ s.y
  case idl =>
    rw [← longPointer_toNat s hoff]
    exact pairIs_longPair (Nat.mod_eq_of_lt (BitVec.isLt _)).symm
  case ily =>
    rw [← longPointer_toNat s hoff]
    exact pairIs_longPair (addIndex_toNat _ s.y)

/-- Settles O24: as O23. The stack-relative offset counts from all 16 bits of SP, in both processor modes. -/
theorem otherModes : Obligations.OtherModes := by
  intro s d a l write h
  have hoff := addByte_toNat s.sp d
  refine ⟨⟨_, adrSr_quiet h d, pairIs_directPair hoff⟩, ⟨_, adrIsy_quiet h d, ?isy⟩,
    ⟨_, adrAbs_quiet h a, pairIs_indexedPair_zero _ a⟩, ⟨_, adrAbx_quiet h a write, pairIs_indexedPair _ a s.x⟩,
    ⟨_, adrAby_quiet h a write, pairIs_indexedPair _ a s.y⟩, ⟨_, adrAbl_quiet h l, ?abl⟩,
    ⟨_, adrAlx_quiet h l, pairIs_longPair (addIndex_toNat l s.x)⟩⟩
  case isy =>
    rw [← pointerWord_toNat s hoff]
    exact pairIs_indexedPair _ _ s.y
  case abl => exact pairIs_longPair (Nat.mod_eq_of_lt l.isLt).symm

end Sys2Proof.Machine
end

section
/-! The data-operand rows of the opcode map (30_encoding.md R96), and what reading an operand leaves (41_alu_read.md
R130), once for all twelve instructions that only read it. -/

namespace Sys2Proof.Machine

/-- The rows of a list are forms of a mnemonic when what their opcodes decode to says so; for rows written out, both
lists are evaluated. -/
theorem isForm_rows {m x : Bool} {b : OperandBytes} {mn : Mnemonic} {rows : List (Byte × Operand)}
    (h : (rows.map fun | (op, _) => (mnemonicOf (decodeOp m x op b), operandOf (decodeOp m x op b))) =
      rows.map fun | (_, o) => (mn, some o) := by rfl) :
    ∀ row ∈ rows, IsForm m x b mn row := fun row hrow =>
  Prod.mk.inj (List.map_inj_left.mp h row hrow)

/-- The state once a data operand is read at a width, the host being quiet (R130). -/
def afterRead (o : Operand) (w8 : Bool) (s : State) : State :=
  { s with
    pc := s.pc + operandLength w8 o
    intWanted := pollValue s
    trace := readTrace o w8 s }

theorem readData_eq_afterRead {s : State} (h : Quiet s) (o : Operand) (w8 : Bool) :
    readData o w8 s = (operandValue o w8 s, afterRead o w8 s) := readData_quiet h o w8

theorem signW_eq_getLsbD (w8 : Bool) (v : Word) : signW w8 v = v.getLsbD (if w8 then 7 else 15) := by
  cases w8 <;> rfl

theorem bit6W_eq_getLsbD (w8 : Bool) (v : Word) : bit6W w8 v = v.getLsbD (if w8 then 6 else 14) := by
  cases w8 <;> rfl

/-- An instruction with a data operand answers what its mnemonic makes of it. -/
theorem exec_of_mnemonic {i : Instr} {o : Operand} {mn : Mnemonic} {s t : State} (ho : operandOf i = some o)
    (hmn : mnemonicOf i = mn) (h : dataMeaning mn o s = t) : exec i s = .next t := by
  rw [exec_data ho, hmn, h]

section
variable {s : State} (h : Quiet s)
include h

theorem aluLogic_quiet (f : Word → Word → Word) (o : Operand) :
    aluLogic f o s =
      let v := f (accW s) (operandValue o s.fM s)
      setZN v s.fM (setAccW v (afterRead o s.fM s)) := by
  rw [aluLogic, readData_eq_afterRead h]
  rfl

theorem aluAdc_quiet (o : Operand) :
    aluAdc o s = putSum (adc s.fD s.fM (accW s) (operandValue o s.fM s) s.fC) (afterRead o s.fM s) := by
  rw [aluAdc, readData_eq_afterRead h]
  rfl

theorem aluSbc_quiet (o : Operand) :
    aluSbc o s = putSum (sbc s.fD s.fM (accW s) (operandValue o s.fM s) s.fC) (afterRead o s.fM s) := by
  rw [aluSbc, readData_eq_afterRead h]
  rfl

theorem aluCmp_quiet (o : Operand) :
    aluCmp o s = compareFlags s.fM (accW s) (operandValue o s.fM s) (afterRead o s.fM s) := by
  rw [aluCmp, readData_eq_afterRead h]
  rfl

theorem aluCpx_quiet (o : Operand) :
    aluCpx o s = compareFlags s.fX (maskW s.fX s.x) (operandValue o s.fX s) (afterRead o s.fX s) := by
  rw [aluCpx, readData_eq_afterRead h]
  rfl

theorem aluCpy_quiet (o : Operand) :
    aluCpy o s = compareFlags s.fX (maskW s.fX s.y) (operandValue o s.fX s) (afterRead o s.fX s) := by
  rw [aluCpy, readData_eq_afterRead h]
  rfl

theorem aluBit_quiet (o : MemOperand) :
    aluBit o s =
      let v := operandValue (.mem o) s.fM s
      { afterRead (.mem o) s.fM s with
        fZ := accW s &&& v == 0#16
        fN := v.getLsbD (if s.fM then 7 else 15)
        fV := v.getLsbD (if s.fM then 6 else 14) } := by
  simp only [aluBit, readData_eq_afterRead h, signW_eq_getLsbD, bit6W_eq_getLsbD]
  rfl

theorem aluBitImm_quiet (c : Word) :
    aluBitImm c s =
      { afterRead (.imm c) s.fM s with fZ := accW s &&& operandValue (.imm c) s.fM s == 0#16 } := by
  rw [aluBitImm, readData_eq_afterRead h]
  rfl

theorem aluLda_quiet (o : Operand) :
    aluLda o s =
      let v := operandValue o s.fM s
      setZN v s.fM (setAccW v (afterRead o s.fM s)) := by
  rw [aluLda, readData_eq_afterRead h]
  rfl

theorem aluLdx_quiet (o : Operand) :
    aluLdx o s =
      let v := operandValue o s.fX s
      setZN v s.fX { afterRead o s.fX s with x := v } := by
  rw [aluLdx, readData_eq_afterRead h]
  rfl

theorem aluLdy_quiet (o : Operand) :
    aluLdy o s =
      let v := operandValue o s.fX s
      setZN v s.fX { afterRead o s.fX s with y := v } := by
  rw [aluLdy, readData_eq_afterRead h]
  rfl

end

end Sys2Proof.Machine
end

section
/-! Results at a width as numbers (10_state.md R42, R43): the value and the sign of a word are those of its number
modulo the width's modulus. -/

namespace Sys2Proof.Machine

/-- The width's modulus divides that of a word, so reducing by the one loses nothing of the other. -/
theorem modulus_dvd (w8 : Bool) : maskNat w8 + 1 ∣ 2 ^ 16 := by
  cases w8 <;> decide

theorem maskW_ofNat (w8 : Bool) (r : Nat) : maskW w8 (BitVec.ofNat 16 r) = BitVec.ofNat 16 (r % (maskNat w8 + 1)) := by
  apply BitVec.eq_of_toNat_eq
  have hlt : r % (maskNat w8 + 1) < 2 ^ 16 :=
    (Nat.mod_lt _ (Nat.succ_pos _)).trans_le (Nat.le_of_dvd (by decide) (modulus_dvd w8))
  rw [maskW_toNat, BitVec.toNat_ofNat, BitVec.toNat_ofNat, Nat.mod_mod_of_dvd _ (modulus_dvd w8), Nat.mod_eq_of_lt hlt]

theorem maskW_ofInt (w8 : Bool) (r : Int) :
    maskW w8 (BitVec.ofInt 16 r) = BitVec.ofInt 16 (r % (maskNat w8 + 1)) := by
  apply BitVec.eq_of_toNat_eq
  rw [maskW_toNat, BitVec.toNat_ofInt, BitVec.toNat_ofInt]
  cases w8 <;> simp only [maskNat, Bool.false_eq_true, if_false, if_true] <;> omega

/-- The sign is judged on the bits of the width alone. -/
theorem signW_maskW (w8 : Bool) (v : Word) : signW w8 (maskW w8 v) = signW w8 v := by
  rw [signW_eq, signW_eq, maskW_toNat, Nat.mod_mod]

/-- N and Z of a value within the width (R42). -/
theorem setZN_of_masked {w8 : Bool} {v : Word} (h : maskW w8 v = v) (s : State) :
    setZN v w8 s = { s with fZ := v == 0, fN := signW w8 v } := by
  rw [setZN, isZeroW_of_masked h]

theorem signW_congr {w8 : Bool} {v w : Word} (h : maskW w8 v = maskW w8 w) : signW w8 v = signW w8 w := by
  rw [← signW_maskW, h, signW_maskW]

/-- A number below the width's modulus is within the width. -/
theorem maskW_of_lt {w8 : Bool} {v : Word} (h : v.toNat < maskNat w8 + 1) : maskW w8 v = v :=
  BitVec.eq_of_toNat_eq (by rw [maskW_toNat, Nat.mod_eq_of_lt h])

/-- The V formula of R134 in words: the inputs' signs agree, and the result's is the other one. -/
theorem overflowW_eq (w8 : Bool) (a op r : Word) :
    overflowW w8 a op r = (signW w8 a == signW w8 op && signW w8 a != signW w8 r) := by
  have bits (p q t : Bool) : (!(p ^^ q) && (p ^^ t)) = (p == q && p != t) := by
    cases p <;> cases q <;> cases t <;> rfl
  cases w8
  · simpa [overflowW, signW] using bits (a.getLsbD 15) (op.getLsbD 15) (r.getLsbD 15)
  · simpa [overflowW, signW] using bits (a.getLsbD 7) (op.getLsbD 7) (r.getLsbD 7)

/-- V depends on the result through its bits of the width alone. -/
theorem overflowW_congr {w8 : Bool} {r q : Word} (h : maskW w8 r = maskW w8 q) (a op : Word) :
    overflowW w8 a op r = overflowW w8 a op q := by
  rw [overflowW_eq, overflowW_eq, signW_congr h]

/-- The complement of an operand at the width (R136). -/
theorem notW_toNat (w8 : Bool) (v : Word) : (notW w8 v).toNat = maskNat w8 - v.toNat % (maskNat w8 + 1) := by
  rw [notW, maskW_toNat, BitVec.toNat_not]
  have := v.isLt
  cases w8 <;> simp only [maskNat, Bool.false_eq_true, if_false, if_true] <;> omega

theorem notW_toNat_of_masked {w8 : Bool} {v : Word} (h : maskW w8 v = v) :
    (notW w8 v).toNat = maskNat w8 - v.toNat := by
  rw [notW_toNat, Nat.mod_eq_of_lt (masked_lt h)]

/-- The complement has the other sign. -/
theorem signW_notW (w8 : Bool) (v : Word) : signW w8 (notW w8 v) = !signW w8 v := by
  rw [notW, signW_maskW]
  cases w8 <;> simp [signW]

/-- What A holds at the width after a value is put there (R20). -/
theorem maskW_mergeAcc (w8 : Bool) (a v : Word) : maskW w8 (mergeAcc w8 a v) = maskW w8 v := by
  cases w8 with
  | false => rfl
  | true => rw [mergeAcc, if_pos rfl, maskW_true, loByte_mkWord, maskW_true]

/-! ### Sums and differences (R134, R136, R138) -/

theorem adcBinary_eq (w8 : Bool) (a op : Word) (cin : Bool) :
    adcBinary w8 a op cin =
      let r := a.toNat + op.toNat + cin.toNat
      ⟨BitVec.ofNat 16 (r % (maskNat w8 + 1)), overflowW w8 a op (BitVec.ofNat 16 r), decide (maskNat w8 < r)⟩ := by
  simp only [adcBinary, maskW_ofNat]

/-- Adding the complement and the carry is subtracting the operand and the borrow, one modulus higher (R136). -/
theorem add_notW_toNat {w8 : Bool} {op : Word} (hop : maskW w8 op = op) (a cin : Nat) :
    ((a + (notW w8 op).toNat + cin : Nat) : Int) = (a : Int) - op.toNat - (1 - cin) + (maskNat w8 + 1) := by
  have := masked_lt hop
  rw [notW_toNat_of_masked hop]
  omega

/-- A word of a sum that is one modulus of the width higher than a number is, at the width, the word of that number. -/
theorem maskW_ofNat_of_eq_add {w8 : Bool} {n : Nat} {r : Int} (h : (n : Int) = r + (maskNat w8 + 1)) :
    maskW w8 (BitVec.ofNat 16 n) = BitVec.ofInt 16 (r % (maskNat w8 + 1)) := by
  rw [← BitVec.ofInt_natCast, maskW_ofInt, h, Int.add_emod_right]

/-- Binary SBC (R136) on an operand within the width, as a subtraction of integers. -/
theorem sbcBinary_eq {w8 : Bool} {op : Word} (hop : maskW w8 op = op) (a : Word) (cin : Bool) :
    adcBinary w8 a (notW w8 op) cin =
      let r : Int := a.toNat - op.toNat - (1 - cin.toNat)
      ⟨BitVec.ofInt 16 (r % (maskNat w8 + 1)), overflowW w8 a (notW w8 op) (BitVec.ofInt 16 r), decide (0 ≤ r)⟩ := by
  have hsum := add_notW_toNat hop a.toNat cin.toNat
  have hvalue := maskW_ofNat_of_eq_add hsum
  simp only [adcBinary, SumResult.mk.injEq, decide_eq_decide]
  refine ⟨hvalue, overflowW_congr (hvalue.trans (maskW_ofInt w8 _).symm) a _, ?_⟩
  omega

/-- Two values within the width are equal when their difference is zero at the width. -/
theorem isZeroW_sub {w8 : Bool} {left v : Word} (hl : maskW w8 left = left) (hv : maskW w8 v = v) :
    isZeroW w8 (left - v) = (left == v) := by
  have hl' := masked_lt hl
  have hv' := masked_lt hv
  have hzero : maskW w8 (left - v) = 0#16 ↔ left = v := by
    rw [← BitVec.toNat_inj, ← BitVec.toNat_inj, maskW_toNat, BitVec.toNat_sub, BitVec.toNat_ofNat]
    cases w8 <;> simp only [maskNat, Bool.false_eq_true, if_false, if_true] at hl' hv' ⊢ <;> omega
  rw [isZeroW, Bool.eq_iff_iff, beq_iff_eq, beq_iff_eq, hzero]

/-- The flags of a compare (R138), both sides being within the width. -/
theorem compareFlags_eq {w8 : Bool} {left v : Word} (hl : maskW w8 left = left) (hv : maskW w8 v = v) (s : State) :
    compareFlags w8 left v s =
      { s with fC := decide (v.toNat ≤ left.toNat), fZ := left == v, fN := signW w8 (left - v) } := by
  have hsum : (compareSum w8 left v : Int) = (left.toNat : Int) - v.toNat + (maskNat w8 + 1) := by
    have := add_notW_toNat hv left.toNat 1
    unfold compareSum
    omega
  have hvalue := maskW_ofNat_of_eq_add hsum
  have hword : BitVec.ofInt 16 ((left.toNat : Int) - v.toNat) = left - v := by
    apply BitVec.eq_of_toNat_eq
    have := v.isLt
    rw [BitVec.toNat_ofInt, BitVec.toNat_sub]
    omega
  rw [← maskW_ofInt, hword] at hvalue
  have hC : decide (maskNat w8 < compareSum w8 left v) = decide (v.toNat ≤ left.toNat) := by
    rw [decide_eq_decide]
    omega
  have hZ := isZeroW_sub hl hv
  unfold compareFlags setZN
  dsimp only
  rw [hvalue, hC, signW_maskW, isZeroW, maskW_maskW, ← isZeroW, hZ]

end Sys2Proof.Machine
end

section
/-! The twelve instructions that read an operand (41_alu_read.md R131 to R144): what each gives, in every form. -/

namespace Sys2Proof.Machine

/-- Settles O26: `aluLogic_quiet` for each of the three functions. -/
theorem logicResult : Obligations.LogicResult :=
  ⟨fun _ _ _ => ⟨isForm_rows, isForm_rows, isForm_rows⟩, fun _ o _ hs ho =>
    ⟨fun hmn => exec_of_mnemonic ho hmn (aluLogic_quiet hs _ o),
      fun hmn => exec_of_mnemonic ho hmn (aluLogic_quiet hs _ o),
      fun hmn => exec_of_mnemonic ho hmn (aluLogic_quiet hs _ o)⟩⟩

/-- Settles O27: the binary sum by `adcBinary_eq`. -/
theorem adcResult : Obligations.AdcResult := by
  refine ⟨fun m x b => isForm_rows, fun i o s hs ho hmn => exec_of_mnemonic ho hmn ((aluAdc_quiet hs o).trans ?_)⟩
  rw [adc, adcBinary_eq]
  split <;> rfl

/-- Settles O28: the binary difference by `sbcBinary_eq`. -/
theorem sbcResult : Obligations.SbcResult := by
  refine ⟨fun m x b => isForm_rows, fun i o s hs ho hmn => exec_of_mnemonic ho hmn ((aluSbc_quiet hs o).trans ?_)⟩
  have hv := maskW_operandValue o s.fM s
  have hnop : notW s.fM (operandValue o s.fM s) = BitVec.ofNat 16 (maskNat s.fM - (operandValue o s.fM s).toNat) := by
    rw [← notW_toNat_of_masked hv, BitVec.ofNat_toNat, BitVec.setWidth_eq]
  rw [sbc, sbcBinary_eq hv, hnop]
  split <;> rfl

/-- Settles O31: `compareFlags_eq`, register and operand being within the width. -/
theorem compareResult : Obligations.CompareResult := by
  refine ⟨fun m x b => ⟨isForm_rows, isForm_rows, isForm_rows⟩, fun i o s hs ho => ?_⟩
  have hv (w8 : Bool) := maskW_operandValue o w8 s
  exact ⟨fun hmn => exec_of_mnemonic ho hmn
      ((aluCmp_quiet hs o).trans (compareFlags_eq (maskW_accW s) (hv s.fM) _)),
    fun hmn => exec_of_mnemonic ho hmn
      ((aluCpx_quiet hs o).trans (compareFlags_eq (maskW_maskW s.fX s.x) (hv s.fX) _)),
    fun hmn => exec_of_mnemonic ho hmn
      ((aluCpy_quiet hs o).trans (compareFlags_eq (maskW_maskW s.fX s.y) (hv s.fX) _))⟩

/-- Settles O32: the immediate form and the forms on memory have meanings of their own. -/
theorem bitResult : Obligations.BitResult := by
  refine ⟨fun m x b => isForm_rows, fun i o s hs ho hmn => exec_of_mnemonic ho hmn ?_⟩
  cases o with
  | imm c => exact aluBitImm_quiet hs c
  | mem o => exact aluBit_quiet hs o

/-- Settles O33: a loaded value is within the width, so that its Z is whether it is zero. -/
theorem loadResult : Obligations.LoadResult := by
  refine ⟨fun m x b => ⟨isForm_rows, isForm_rows, isForm_rows⟩, fun i o s hs ho => ?_⟩
  have hv (w8 : Bool) := setZN_of_masked (maskW_operandValue o w8 s)
  exact ⟨fun hmn => exec_of_mnemonic ho hmn ((aluLda_quiet hs o).trans (hv s.fM _)),
    fun hmn => exec_of_mnemonic ho hmn ((aluLdx_quiet hs o).trans (hv s.fX _)),
    fun hmn => exec_of_mnemonic ho hmn ((aluLdy_quiet hs o).trans (hv s.fX _))⟩

end Sys2Proof.Machine
end

section
/-! Numbers by their digits: nibbles of a word (base 16) and BCD (base 10) alike. -/

namespace Sys2Proof.Machine

/-- The number with the digits `d 0`, …, `d (n - 1)` in base `b`, the lowest first, as Mathlib's equivalence of digits
and numbers gives it. -/
theorem finFunctionFinEquiv_digits {b n : Nat} {d : Nat → Nat} (hd : ∀ k < n, d k < b) :
    (finFunctionFinEquiv fun i : Fin n => (⟨d i, hd i i.isLt⟩ : Fin b) : Nat) = ∑ k ∈ Finset.range n, d k * b ^ k :=
  (finFunctionFinEquiv_apply _).trans (Fin.sum_univ_eq_sum_range (fun k => d k * b ^ k) n)

theorem sum_digits_lt {b n : Nat} {d : Nat → Nat} (hd : ∀ k < n, d k < b) :
    ∑ k ∈ Finset.range n, d k * b ^ k < b ^ n := by
  rw [← finFunctionFinEquiv_digits hd]
  exact Fin.isLt _

theorem sum_digits_div_mod {b n : Nat} {d : Nat → Nat} (hd : ∀ k < n, d k < b) {k : Nat} (hk : k < n) :
    (∑ i ∈ Finset.range n, d i * b ^ i) / b ^ k % b = d k := by
  rw [← finFunctionFinEquiv_digits hd]
  exact congrArg Fin.val (congrFun (finFunctionFinEquiv.symm_apply_apply _) (⟨k, hk⟩ : Fin n))

/-- A column-by-column addition, each column handing a carry to the next: the carries between columns cancel. -/
theorem sum_columns {b n : Nat} {r u v c : Nat → Nat} (h : ∀ k < n, r k + b * c (k + 1) = u k + v k + c k) :
    ∑ k ∈ Finset.range n, r k * b ^ k + b ^ n * c n =
      ∑ k ∈ Finset.range n, u k * b ^ k + ∑ k ∈ Finset.range n, v k * b ^ k + c 0 := by
  induction n with
  | zero => simp
  | succ n ih =>
    have column := congrArg (· * b ^ n) (h n n.lt_succ_self)
    have lower := ih fun k hk => h k (hk.trans n.lt_succ_self)
    simp only [Finset.sum_range_succ, pow_succ]
    linarith

/-! ### The nibbles of a width -/

/-- How many nibbles a width has (R135). -/
def nibbleCount (w8 : Bool) : Nat := if w8 then 2 else 4

theorem nibbleCount_le (w8 : Bool) : nibbleCount w8 ≤ 4 := by
  cases w8 <;> decide

theorem nibbles_eq_range (w8 : Bool) : nibbles w8 = List.range (nibbleCount w8) := by
  cases w8 <;> rfl

theorem topNibble_add_one (w8 : Bool) : topNibble w8 + 1 = nibbleCount w8 := by
  cases w8 <;> rfl

theorem maskNat_add_one (w8 : Bool) : maskNat w8 + 1 = 16 ^ nibbleCount w8 := by
  cases w8 <;> rfl

theorem bcdModulus_eq_pow (w8 : Bool) : bcdModulus w8 = 10 ^ nibbleCount w8 := by
  cases w8 <;> rfl

theorem nibble_lt (k : Nat) (v : Word) : nibble k v < 16 := Nat.mod_lt _ (by decide)

/-- The sign of a width is whether its top nibble is 8 or more. -/
theorem signW_eq_nibble (w8 : Bool) (v : Word) : signW w8 v = decide (8 ≤ nibble (topNibble w8) v) := by
  rw [signW_eq, decide_eq_decide]
  cases w8 <;> simp only [nibble, maskNat, topNibble, Bool.false_eq_true, if_false, if_true] <;> omega

/-- The word of a number with at most four digits in base 16. -/
theorem toNat_ofNat_sum {n : Nat} (hn : n ≤ 4) {d : Nat → Nat} (hd : ∀ k < n, d k < 16) :
    (BitVec.ofNat 16 (∑ k ∈ Finset.range n, d k * 16 ^ k)).toNat = ∑ k ∈ Finset.range n, d k * 16 ^ k := by
  have hlt : ∑ k ∈ Finset.range n, d k * 16 ^ k < 16 ^ 4 :=
    (sum_digits_lt hd).trans_le (Nat.pow_le_pow_right (by decide) hn)
  exact (BitVec.toNat_ofNat _ 16).trans (Nat.mod_eq_of_lt hlt)

theorem nibble_ofNat_sum {n : Nat} (hn : n ≤ 4) {d : Nat → Nat} (hd : ∀ k < n, d k < 16) {k : Nat} (hk : k < n) :
    nibble k (BitVec.ofNat 16 (∑ i ∈ Finset.range n, d i * 16 ^ i)) = d k := by
  rw [nibble, toNat_ofNat_sum hn hd, sum_digits_div_mod hd hk]

/-- The top nibble of a word put together from a nibble and a number below it. -/
theorem nibble_ofNat_add {k : Nat} (hk : k < 4) {low t : Nat} (hlow : low < 16 ^ k) (ht : t < 16) :
    nibble k (BitVec.ofNat 16 (low + t * 16 ^ k)) = t := by
  have hpos : 0 < 16 ^ k := Nat.pow_pos (by decide)
  have hlt : low + t * 16 ^ k < 2 ^ 16 := by
    interval_cases k <;> omega
  rw [nibble, BitVec.toNat_ofNat, Nat.mod_eq_of_lt hlt, Nat.add_mul_div_right _ _ hpos, Nat.div_eq_of_lt hlow,
    Nat.zero_add, Nat.mod_eq_of_lt ht]

/-! ### BCD -/

theorem validBcd_iff {w8 : Bool} {v : Word} : validBcd w8 v = true ↔ ∀ k < nibbleCount w8, nibble k v ≤ 9 := by
  simp [validBcd, nibbles_eq_range]

theorem fromBcd_eq_sum (w8 : Bool) (v : Word) :
    fromBcd w8 v = ∑ k ∈ Finset.range (nibbleCount w8), nibble k v * 10 ^ k := by
  rw [fromBcd, nibbles_eq_range]
  rfl

theorem fromBcd_lt {w8 : Bool} {v : Word} (h : validBcd w8 v = true) : fromBcd w8 v < bcdModulus w8 := by
  rw [fromBcd_eq_sum, bcdModulus_eq_pow]
  exact sum_digits_lt fun k hk => Nat.lt_succ_of_le (validBcd_iff.mp h k hk)

/-- Words whose digits add up column by column add up as the numbers they stand for. -/
theorem fromBcd_columns {w8 : Bool} {r u v : Word} {c : Nat → Bool}
    (h : ∀ k < nibbleCount w8, nibble k r + 10 * (c (k + 1)).toNat = nibble k u + nibble k v + (c k).toNat) :
    fromBcd w8 r + bcdModulus w8 * (c (nibbleCount w8)).toNat = fromBcd w8 u + fromBcd w8 v + (c 0).toNat := by
  rw [fromBcd_eq_sum, fromBcd_eq_sum, fromBcd_eq_sum, bcdModulus_eq_pow]
  exact sum_columns (c := fun k => (c k).toNat) h

end Sys2Proof.Machine
end

section
/-! Decimal ADC and SBC (41_alu_read.md R135, R137): the pass over the nibbles, which the two share, then for each what
its digits are, and what they mean for valid BCD. -/

namespace Sys2Proof.Machine

/-! ### A pass over the nibbles -/

/-- A pass of a nibble step over the nibbles below `n`, from the link that goes into the lowest. -/
def runNibbles (step : DecimalAcc → Nat → DecimalAcc) (link : Bool) (n : Nat) : DecimalAcc :=
  (List.range n).foldl step ⟨link, 0, false⟩

theorem runNibbles_succ (step : DecimalAcc → Nat → DecimalAcc) (link : Bool) (n : Nat) :
    runNibbles step link (n + 1) = step (runNibbles step link n) n := by
  simp [runNibbles, List.range_succ]

/-- What the nibble steps of R135 and R137 share: each puts one digit above those it has, and the top one takes V from
its nibble before the correction, by the formula of R134 on `a` and `b`. -/
structure DigitSteps (w8 : Bool) (a b : Word) (step : DecimalAcc → Nat → DecimalAcc) (link : Bool)
    (digit raw : Nat → Nat) : Prop where
  res : ∀ k, (runNibbles step link (k + 1)).res = (runNibbles step link k).res + digit k * 16 ^ k
  overflow : ∀ k, k = topNibble w8 → (runNibbles step link (k + 1)).overflow =
    overflowW w8 a b (BitVec.ofNat 16 ((runNibbles step link k).res + raw k * 16 ^ k))
  digit_lt : ∀ k, digit k < 16
  raw_lt : ∀ k, raw k < 16

section
variable {w8 : Bool} {a b : Word} {step : DecimalAcc → Nat → DecimalAcc} {link : Bool} {digit raw : Nat → Nat}
  (h : DigitSteps w8 a b step link digit raw)
include h

theorem DigitSteps.res_eq_sum (n : Nat) :
    (runNibbles step link n).res = ∑ k ∈ Finset.range n, digit k * 16 ^ k := by
  induction n with
  | zero => rfl
  | succ n ih => rw [h.res, ih, Finset.sum_range_succ]

theorem DigitSteps.value_lt :
    (BitVec.ofNat 16 (runNibbles step link (nibbleCount w8)).res).toNat < 16 ^ nibbleCount w8 := by
  rw [h.res_eq_sum, toNat_ofNat_sum (nibbleCount_le w8) fun k _ => h.digit_lt k]
  exact sum_digits_lt fun k _ => h.digit_lt k

theorem DigitSteps.nibble_value {k : Nat} (hk : k < nibbleCount w8) :
    nibble k (BitVec.ofNat 16 (runNibbles step link (nibbleCount w8)).res) = digit k := by
  rw [h.res_eq_sum, nibble_ofNat_sum (nibbleCount_le w8) (fun k _ => h.digit_lt k) hk]

theorem DigitSteps.overflow_eq {k : Nat} (hk : k + 1 = nibbleCount w8) :
    (runNibbles step link (nibbleCount w8)).overflow =
      (signW w8 a == signW w8 b && signW w8 a != decide (8 ≤ raw k)) := by
  have htop : k = topNibble w8 := Nat.succ.inj (hk.trans (topNibble_add_one w8).symm)
  have hlow : (runNibbles step link k).res < 16 ^ k := by
    rw [h.res_eq_sum]
    exact sum_digits_lt fun k _ => h.digit_lt k
  have hraw : nibble k (BitVec.ofNat 16 ((runNibbles step link k).res + raw k * 16 ^ k)) = raw k :=
    nibble_ofNat_add (by have := nibbleCount_le w8; omega) hlow (h.raw_lt k)
  rw [← hk, h.overflow k htop, overflowW_eq, signW_eq_nibble w8 (BitVec.ofNat 16 _), ← htop, hraw]

end

/-! ### Addition -/

section
variable (w8 : Bool) (a op : Word) (c : Bool)

/-- The carry into nibble `k` of a decimal addition. -/
def adcCarry (k : Nat) : Bool := (runNibbles (adcNibble w8 a op) c k).link

/-- The sum of nibble `k` before its correction. -/
def adcRaw (k : Nat) : Nat := nibble k a + nibble k op + (adcCarry w8 a op c k).toNat

/-- Nibble `k` of the sum. -/
def adcDigit (k : Nat) : Nat :=
  if 9 < adcRaw w8 a op c k then (adcRaw w8 a op c k + 6) % 16 else adcRaw w8 a op c k

theorem adcDecimal_eq_run :
    adcDecimal w8 a op c =
      let r := runNibbles (adcNibble w8 a op) c (nibbleCount w8)
      ⟨BitVec.ofNat 16 r.res, r.overflow, r.link⟩ := by
  rw [adcDecimal, nibbles_eq_range]
  rfl

theorem adcCarry_succ (k : Nat) : adcCarry w8 a op c (k + 1) = decide (9 < adcRaw w8 a op c k) := by
  rw [adcCarry, runNibbles_succ]
  rfl

theorem adc_digitSteps :
    DigitSteps w8 a op (adcNibble w8 a op) c (adcDigit w8 a op c) fun k => adcRaw w8 a op c k % 16 where
  res k := by rw [runNibbles_succ]; rfl
  overflow k hk := by rw [runNibbles_succ]; exact if_pos hk
  digit_lt k := by unfold adcDigit; split <;> omega
  raw_lt k := Nat.mod_lt _ (by decide)

/-- The nibbles, V and C of a decimal sum, for all operands (R135, log 11). -/
theorem adcDecimal_nibbles :
    let p := adcDecimal w8 a op c
    p.carry = adcCarry w8 a op c (nibbleCount w8) ∧ p.value.toNat < 16 ^ nibbleCount w8 ∧
      ∀ k < nibbleCount w8, nibble k p.value = adcDigit w8 a op c k ∧
        (k + 1 = nibbleCount w8 → p.overflow =
          (signW w8 a == signW w8 op && signW w8 a != decide (8 ≤ adcRaw w8 a op c k % 16))) := by
  have h := adc_digitSteps w8 a op c
  rw [adcDecimal_eq_run]
  exact ⟨rfl, h.value_lt, fun k hk => ⟨h.nibble_value hk, h.overflow_eq⟩⟩

variable {w8 a op}

/-- A column of valid BCD: its digit and its carry are the decimal ones. -/
theorem adcDigit_of_validBcd (ha : validBcd w8 a = true) (hop : validBcd w8 op = true) {k : Nat}
    (hk : k < nibbleCount w8) :
    adcDigit w8 a op c k ≤ 9 ∧ adcDigit w8 a op c k + 10 * (adcCarry w8 a op c (k + 1)).toNat =
      nibble k a + nibble k op + (adcCarry w8 a op c k).toNat := by
  have hna := validBcd_iff.mp ha k hk
  have hnop := validBcd_iff.mp hop k hk
  have hc := Bool.toNat_le (adcCarry w8 a op c k)
  rw [adcCarry_succ]
  unfold adcDigit
  by_cases hs : 9 < adcRaw w8 a op c k
  · simp only [hs, if_true, decide_true, Bool.toNat_true]
    unfold adcRaw at *
    omega
  · simp only [hs, if_false, decide_false, Bool.toNat_false]
    unfold adcRaw at *
    omega

/-- The decimal sum of valid BCD (R135). -/
theorem adcDecimal_bcd (ha : validBcd w8 a = true) (hop : validBcd w8 op = true) :
    let p := adcDecimal w8 a op c
    let sum := fromBcd w8 a + fromBcd w8 op + c.toNat
    validBcd w8 p.value = true ∧ fromBcd w8 p.value = sum % bcdModulus w8 ∧
      p.carry = decide (bcdModulus w8 ≤ sum) := by
  intro p sum
  obtain ⟨hcarry, -, hnib⟩ := adcDecimal_nibbles w8 a op c
  have hvalid : validBcd w8 p.value = true := validBcd_iff.mpr fun k hk => by
    rw [(hnib k hk).1]
    exact (adcDigit_of_validBcd c ha hop hk).1
  have hsum : fromBcd w8 p.value + bcdModulus w8 * p.carry.toNat = sum := by
    rw [hcarry]
    refine fromBcd_columns (c := adcCarry w8 a op c) fun k hk => ?_
    rw [(hnib k hk).1]
    exact (adcDigit_of_validBcd c ha hop hk).2
  have hlt := fromBcd_lt hvalid
  refine ⟨hvalid, ?_, ?_⟩
  · rw [← hsum, Nat.add_mul_mod_self_left, Nat.mod_eq_of_lt hlt]
  · rw [← hsum]
    cases p.carry <;> simp [hlt]

end

/-! ### Subtraction -/

section
variable (w8 : Bool) (a op : Word) (c : Bool)

/-- The borrow into nibble `k` of a decimal subtraction: into the lowest, 1 - C. -/
def sbcBorrow (k : Nat) : Bool := (runNibbles (sbcNibble w8 a op) (!c) k).link

/-- The difference of nibble `k` before its correction. -/
def sbcRaw (k : Nat) : Int := nibble k a - nibble k op - (sbcBorrow w8 a op c k).toNat

/-- Nibble `k` of the difference. -/
def sbcDigit (k : Nat) : Nat :=
  if sbcRaw w8 a op c k < 0 then ((sbcRaw w8 a op c k - 6) % 16).toNat else (sbcRaw w8 a op c k).toNat

theorem sbcDecimal_eq_run :
    sbcDecimal w8 a op c =
      let r := runNibbles (sbcNibble w8 a op) (!c) (nibbleCount w8)
      ⟨BitVec.ofNat 16 r.res, r.overflow, !r.link⟩ := by
  rw [sbcDecimal, nibbles_eq_range]
  rfl

theorem sbcBorrow_succ (k : Nat) : sbcBorrow w8 a op c (k + 1) = decide (sbcRaw w8 a op c k < 0) := by
  rw [sbcBorrow, runNibbles_succ]
  rfl

theorem sbcDigit_eq (k : Nat) :
    (sbcDigit w8 a op c k : Int) =
      if sbcRaw w8 a op c k < 0 then (sbcRaw w8 a op c k - 6) % 16 else sbcRaw w8 a op c k := by
  unfold sbcDigit
  split <;> omega

theorem sbcRaw_lt (k : Nat) : sbcRaw w8 a op c k < 16 := by
  have := nibble_lt k a
  unfold sbcRaw
  omega

theorem sbc_digitSteps :
    DigitSteps w8 a (notW w8 op) (sbcNibble w8 a op) (!c) (sbcDigit w8 a op c)
      fun k => (sbcRaw w8 a op c k % 16).toNat where
  res k := by rw [runNibbles_succ]; rfl
  overflow k hk := by rw [runNibbles_succ]; exact if_pos hk
  digit_lt k := by have := sbcRaw_lt w8 a op c k; unfold sbcDigit; split <;> omega
  raw_lt k := by omega

/-- The nibbles, V and C of a decimal difference, for all operands (R137, log 11). -/
theorem sbcDecimal_nibbles :
    let q := sbcDecimal w8 a op c
    q.carry = !sbcBorrow w8 a op c (nibbleCount w8) ∧ q.value.toNat < 16 ^ nibbleCount w8 ∧
      ∀ k < nibbleCount w8, nibble k q.value = sbcDigit w8 a op c k ∧
        (k + 1 = nibbleCount w8 → q.overflow =
          (signW w8 a != signW w8 op && signW w8 a != decide (8 ≤ (sbcRaw w8 a op c k % 16).toNat))) := by
  have h := sbc_digitSteps w8 a op c
  have hsign : (signW w8 a == signW w8 (notW w8 op)) = (signW w8 a != signW w8 op) := by
    rw [signW_notW]
    cases signW w8 a <;> cases signW w8 op <;> rfl
  rw [sbcDecimal_eq_run]
  exact ⟨rfl, h.value_lt, fun k hk => ⟨h.nibble_value hk, fun htop => hsign ▸ h.overflow_eq htop⟩⟩

variable {w8 a op}

/-- A column of valid BCD: its digit and its borrow are the decimal ones. -/
theorem sbcDigit_of_validBcd (ha : validBcd w8 a = true) (hop : validBcd w8 op = true) {k : Nat}
    (hk : k < nibbleCount w8) :
    sbcDigit w8 a op c k ≤ 9 ∧ nibble k a + 10 * (sbcBorrow w8 a op c (k + 1)).toNat =
      sbcDigit w8 a op c k + nibble k op + (sbcBorrow w8 a op c k).toNat := by
  have hna := validBcd_iff.mp ha k hk
  have hnop := validBcd_iff.mp hop k hk
  have hb := Bool.toNat_le (sbcBorrow w8 a op c k)
  rw [sbcBorrow_succ]
  unfold sbcDigit
  by_cases hd : sbcRaw w8 a op c k < 0
  · simp only [hd, if_true, decide_true, Bool.toNat_true]
    unfold sbcRaw at *
    omega
  · simp only [hd, if_false, decide_false, Bool.toNat_false]
    unfold sbcRaw at *
    omega

/-- The decimal difference of valid BCD (R137). -/
theorem sbcDecimal_bcd (ha : validBcd w8 a = true) (hop : validBcd w8 op = true) :
    let q := sbcDecimal w8 a op c
    let diff : Int := fromBcd w8 a - fromBcd w8 op - (1 - c.toNat)
    validBcd w8 q.value = true ∧ (fromBcd w8 q.value : Int) = diff % bcdModulus w8 ∧ q.carry = decide (0 ≤ diff) := by
  intro q diff
  obtain ⟨hcarry, -, hnib⟩ := sbcDecimal_nibbles w8 a op c
  have hvalid : validBcd w8 q.value = true := validBcd_iff.mpr fun k hk => by
    rw [(hnib k hk).1]
    exact (sbcDigit_of_validBcd c ha hop hk).1
  have hcolumns :
      fromBcd w8 a + bcdModulus w8 * (!q.carry).toNat = fromBcd w8 q.value + fromBcd w8 op + (!c).toNat := by
    rw [hcarry, Bool.not_not]
    refine fromBcd_columns (c := sbcBorrow w8 a op c) fun k hk => ?_
    rw [(hnib k hk).1]
    exact (sbcDigit_of_validBcd c ha hop hk).2
  have hdiff : diff = fromBcd w8 q.value + bcdModulus w8 * -((!q.carry).toNat : Int) := by
    have hc : ((!c).toNat : Int) = 1 - c.toNat := by cases c <;> rfl
    have hcast := congrArg (Nat.cast (R := Int)) hcolumns
    push_cast at hcast
    linarith
  have hlt := fromBcd_lt hvalid
  refine ⟨hvalid, ?_, ?_⟩
  · rw [hdiff, Int.add_mul_emod_self_left, Int.emod_eq_of_lt (by omega) (by omega)]
  · rw [hdiff]
    cases q.carry
    · simp [hlt]
    · simp

end

end Sys2Proof.Machine
end

section
/-! What the decimal mode means, and the round trip of ADC and SBC (41_alu_read.md R134 to R137, R146). -/

namespace Sys2Proof.Machine

/-- Settles O29: the nibbles by `adcDecimal_nibbles` and `sbcDecimal_nibbles`, with the carries and borrows of the pass
itself; valid BCD by `adcDecimal_bcd` and `sbcDecimal_bcd`. -/
theorem decimalMeaning : Obligations.DecimalMeaning := by
  intro w8 c a op count high p q
  have hsign (v : Word) {k : Nat} (hk : k + 1 = count) : signW w8 v = high (nibble k v) := by
    rw [signW_eq_nibble, Nat.succ.inj ((topNibble_add_one w8).trans hk.symm)]
  refine ⟨?sum, ?difference, fun ha hop => ?bcd⟩
  case sum =>
    obtain ⟨hcarry, hlt, hnib⟩ := adcDecimal_nibbles w8 a op c
    refine ⟨adcCarry w8 a op c, rfl, hcarry, hlt, fun k hk => ?_⟩
    obtain ⟨hdigit, hV⟩ := hnib k hk
    refine ⟨adcCarry_succ w8 a op c k, hdigit, fun htop => ?_⟩
    rw [← hsign a htop, ← hsign op htop]
    exact hV htop
  case difference =>
    obtain ⟨hborrow, hlt, hnib⟩ := sbcDecimal_nibbles w8 a op c
    refine ⟨sbcBorrow w8 a op c, rfl, hborrow, hlt, fun k hk => ?_⟩
    obtain ⟨hdigit, hV⟩ := hnib k hk
    refine ⟨sbcBorrow_succ w8 a op c k, (congrArg Nat.cast hdigit).trans (sbcDigit_eq w8 a op c k), fun htop => ?_⟩
    rw [← hsign a htop, ← hsign op htop]
    exact hV htop
  case bcd =>
    obtain ⟨hp, hsum, hcarry⟩ := adcDecimal_bcd c ha hop
    obtain ⟨hq, hdiff, hborrow⟩ := sbcDecimal_bcd c ha hop
    exact ⟨hp, hsum, hcarry, hq, hdiff, hborrow⟩

/-! ### Subtracting what was added -/

theorem adcBinary_value_toNat (w8 : Bool) (a op : Word) (c : Bool) :
    (adcBinary w8 a op c).value.toNat = (a.toNat + op.toNat + c.toNat) % (maskNat w8 + 1) := by
  rw [adcBinary, maskW_toNat, BitVec.toNat_ofNat, Nat.mod_mod_of_dvd _ (modulus_dvd w8)]

/-- In binary, with no borrow in, SBC gives back A plus the carry that went into ADC. -/
theorem sbcBinary_adcBinary {w8 : Bool} {op : Word} (hop : maskW w8 op = op) (a : Word) (c : Bool) :
    (adcBinary w8 (adcBinary w8 a op c).value (notW w8 op) true).value.toNat =
      (a.toNat + c.toNat) % (maskNat w8 + 1) := by
  have hlt := masked_lt hop
  rw [adcBinary_value_toNat, adcBinary_value_toNat, notW_toNat_of_masked hop, Bool.toNat_true, Nat.add_assoc,
    Nat.mod_add_mod]
  calc (a.toNat + op.toNat + c.toNat + (maskNat w8 - op.toNat + 1)) % (maskNat w8 + 1)
      = (a.toNat + c.toNat + (maskNat w8 + 1)) % (maskNat w8 + 1) := by congr 1; omega
    _ = (a.toNat + c.toNat) % (maskNat w8 + 1) := Nat.add_mod_right _ _

/-- The same in decimal, for valid BCD. -/
theorem sbcDecimal_adcDecimal {w8 : Bool} {a op : Word} (ha : validBcd w8 a = true) (hop : validBcd w8 op = true)
    (c : Bool) :
    let v := (sbcDecimal w8 (adcDecimal w8 a op c).value op true).value
    validBcd w8 v = true ∧ fromBcd w8 v = (fromBcd w8 a + c.toNat) % bcdModulus w8 := by
  obtain ⟨hp, hsum, -⟩ := adcDecimal_bcd c ha hop
  obtain ⟨hq, hdiff, -⟩ := sbcDecimal_bcd true hp hop
  refine ⟨hq, Int.natCast_inj.mp ?_⟩
  rw [hdiff, hsum]
  push_cast
  rw [Bool.toNat_true, Nat.cast_one, sub_self, sub_zero, Int.emod_sub_emod]
  congr 1
  ring

/-! ### The values are within the width -/

theorem maskW_adcBinary (w8 : Bool) (a op : Word) (c : Bool) :
    maskW w8 (adcBinary w8 a op c).value = (adcBinary w8 a op c).value := maskW_maskW _ _

theorem maskW_adc (d w8 : Bool) (a op : Word) (c : Bool) :
    maskW w8 (adc d w8 a op c).value = (adc d w8 a op c).value := by
  cases d with
  | false => exact maskW_adcBinary w8 a op c
  | true =>
    obtain ⟨-, hlt, -⟩ := adcDecimal_nibbles w8 a op c
    exact maskW_of_lt (hlt.trans_eq (maskNat_add_one w8).symm)

theorem maskW_sbc (d w8 : Bool) (a op : Word) (c : Bool) :
    maskW w8 (sbc d w8 a op c).value = (sbc d w8 a op c).value := by
  cases d with
  | false => exact maskW_adcBinary w8 a (notW w8 op) c
  | true =>
    obtain ⟨-, hlt, -⟩ := sbcDecimal_nibbles w8 a op c
    exact maskW_of_lt (hlt.trans_eq (maskNat_add_one w8).symm)

/-- What Aw is after ADC or SBC put a result there. -/
theorem accW_putSum {r : SumResult} {s : State} (hr : maskW s.fM r.value = r.value) : accW (putSum r s) = r.value :=
  (maskW_mergeAcc s.fM s.a r.value).trans hr

theorem accW_aluAdc {s : State} (h : Quiet s) (o : Operand) :
    accW (aluAdc o s) = (adc s.fD s.fM (accW s) (operandValue o s.fM s) s.fC).value := by
  rw [aluAdc_quiet h]
  exact accW_putSum (maskW_adc ..)

theorem accW_aluSbc {s : State} (h : Quiet s) (o : Operand) :
    accW (aluSbc o s) = (sbc s.fD s.fM (accW s) (operandValue o s.fM s) s.fC).value := by
  rw [aluSbc_quiet h]
  exact accW_putSum (maskW_sbc ..)

/-! ### The operand is read again -/

/-- The address pair of an operand in memory (R112 to R126). -/
def operandPair (s : State) : MemOperand → AddrPair
  | .dp d => directPair (s.dp + zextByte d)
  | .dpx d => directPair (s.dp + zextByte d + s.x)
  | .dpy d => directPair (s.dp + zextByte d + s.y)
  | .idp d => indexedPair s.db (pointerWord s (s.dp + zextByte d)) 0#16
  | .idx d => indexedPair s.db (pointerWord s (s.dp + zextByte d + s.x)) 0#16
  | .idy d => indexedPair s.db (pointerWord s (s.dp + zextByte d)) s.y
  | .idl d => longPair (bankAddr (pointerBank s (s.dp + zextByte d)) (pointerWord s (s.dp + zextByte d)))
  | .ily d =>
    longPair (bankAddr (pointerBank s (s.dp + zextByte d)) (pointerWord s (s.dp + zextByte d)) + s.y.setWidth 24)
  | .sr d => directPair (s.sp + zextByte d)
  | .isy d => indexedPair s.db (pointerWord s (s.sp + zextByte d)) s.y
  | .abs a => indexedPair s.db a 0#16
  | .abx a => indexedPair s.db a s.x
  | .aby a => indexedPair s.db a s.y
  | .abl a => longPair a
  | .alx a => longPair (a + s.x.setWidth 24)

theorem address_fst_quiet {s : State} (h : Quiet s) (o : MemOperand) (write : Bool) :
    (address o write s).1 = operandPair s o := by
  cases o with
  | dp d => exact congrArg Prod.fst (adrDp_quiet h d)
  | dpx d => exact congrArg Prod.fst (adrDpx_quiet h d)
  | dpy d => exact congrArg Prod.fst (adrDpy_quiet h d)
  | idp d => exact congrArg Prod.fst (adrIdp_quiet h d)
  | idx d => exact congrArg Prod.fst (adrIdx_quiet h d)
  | idy d => exact congrArg Prod.fst (adrIdy_quiet h d write)
  | idl d => exact congrArg Prod.fst (adrIdl_quiet h d)
  | ily d => exact congrArg Prod.fst (adrIly_quiet h d)
  | sr d => exact congrArg Prod.fst (adrSr_quiet h d)
  | isy d => exact congrArg Prod.fst (adrIsy_quiet h d)
  | abs a => exact congrArg Prod.fst (adrAbs_quiet h a)
  | abx a => exact congrArg Prod.fst (adrAbx_quiet h a write)
  | aby a => exact congrArg Prod.fst (adrAby_quiet h a write)
  | abl a => exact congrArg Prod.fst (adrAbl_quiet h a)
  | alx a => exact congrArg Prod.fst (adrAlx_quiet h a)

/-- The fields that the addresses of an operand in memory and the bytes there depend on. -/
def operandFields : List Field := [.x, .y, .sp, .dp, .db, .mem]

theorem operandPair_congr {s t : State} (same : ∀ f ∈ operandFields, f.Same s t) (o : MemOperand) :
    operandPair t o = operandPair s o := by
  obtain hx : t.x = s.x := same .x (by decide)
  obtain hy : t.y = s.y := same .y (by decide)
  obtain hsp : t.sp = s.sp := same .sp (by decide)
  obtain hdp : t.dp = s.dp := same .dp (by decide)
  obtain hdb : t.db = s.db := same .db (by decide)
  obtain hmem : t.mem = s.mem := same .mem (by decide)
  cases o <;> simp only [operandPair, pointerWord, pointerBank, hx, hy, hsp, hdp, hdb, hmem]

/-- A quiet host answers the reads of an operand alike in states that agree on those fields. -/
theorem operandValue_congr {s t : State} (hs : Quiet s) (ht : Quiet t) (same : ∀ f ∈ operandFields, f.Same s t)
    (o : Operand) (w8 : Bool) : operandValue o w8 t = operandValue o w8 s := by
  cases o with
  | imm c => rfl
  | mem o =>
    obtain hmem : t.mem = s.mem := same .mem (by decide)
    simp only [operandValue, valueAt, address_fst_quiet hs, address_fst_quiet ht, operandPair_congr same, hmem]

/-! ### The round trip -/

/-- CLC and SEC leave Aw (R180, R182). -/
theorem accW_implied (s : State) (c : Bool) : accW { adrImp s with fC := c } = accW s := by
  have h : Changes [.fC] s { adrImp s with fC := c } := implied_changes (changes_fC c _)
  obtain hA : (adrImp s).a = s.a := h.same .a (by decide)
  obtain hM : (adrImp s).fM = s.fM := h.same .fM (by decide)
  exact congrArg₂ maskW hM hA

/-- The state after ADC and SEC. -/
def afterAdcSec (o : Operand) (s : State) : State := { adrImp (aluAdc o s) with fC := true }

theorem afterAdcSec_changes (o : Operand) (s : State) :
    Changes [.fV, .fC, .a, .fZ, .fN, .fC] s (afterAdcSec o s) :=
  (aluAdc_changes o s).trans (implied_changes (changes_fC true _))

theorem accW_afterAdcSec {s : State} (h : Quiet s) (o : Operand) :
    accW (afterAdcSec o s) = (adc s.fD s.fM (accW s) (operandValue o s.fM s) s.fC).value :=
  (accW_implied (aluAdc o s) true).trans (accW_aluAdc h o)

/-- What SBC then makes of the operand that ADC added: it reads the same one, as only A and flags have changed. -/
theorem accW_aluSbc_afterAdcSec {s : State} (h : Quiet s) (o : Operand) :
    accW (aluSbc o (afterAdcSec o s)) =
      (sbc s.fD s.fM (accW (afterAdcSec o s)) (operandValue o s.fM s) true).value := by
  have hu := afterAdcSec_changes o s
  obtain ⟨huq, -, -⟩ := hu.quiet h
  have hD : (afterAdcSec o s).fD = s.fD := hu.same .fD (by decide)
  have hM : (afterAdcSec o s).fM = s.fM := hu.same .fM (by decide)
  have hC : (afterAdcSec o s).fC = true := rfl
  have kept : ∀ f ∈ operandFields, f ∉ [Field.fV, .fC, .a, .fZ, .fN, .fC] := by decide
  rw [accW_aluSbc huq, hD, hM, hC, operandValue_congr h huq fun f hf => hu.same f (kept f hf)]

/-- Settles O30: the three instructions change only A and flags; what SBC gives back is `sbcBinary_adcBinary` or
`sbcDecimal_adcDecimal`. -/
theorem adcSbcRoundTrip : Obligations.AdcSbcRoundTrip := by
  intro i j o s hs hi hj hadc hsbc hbcd
  have hw := (afterAdcSec_changes o s).trans (aluSbc_changes o (afterAdcSec o s))
  refine ⟨aluAdc o s, afterAdcSec o s, aluSbc o (afterAdcSec o s), exec_of_mnemonic hi hadc rfl, rfl,
    exec_of_mnemonic hj hsbc rfl, hiByte_a_of_heldB (hw.same .heldB (by decide)), hw.same .x (by decide),
    hw.same .y (by decide), hw.same .sp (by decide), hw.same .dp (by decide), hw.same .k (by decide),
    hw.same .db (by decide), hw.same .mem (by decide), ?_⟩
  rw [accW_aluSbc_afterAdcSec hs, accW_afterAdcSec hs]
  cases hd : s.fD with
  | false => exact sbcBinary_adcBinary (maskW_operandValue o s.fM s) (accW s) s.fC
  | true =>
    obtain ⟨ha, hop⟩ := hbcd hd
    exact sbcDecimal_adcDecimal ha hop s.fC

end Sys2Proof.Machine
end

section
/-! The functions of the read-modify-write instructions as arithmetic on numbers (42_store_rmw.md R156 to R164): shifts
double and halve, and the bit that comes in is added. -/

namespace Sys2Proof.Machine

/-! ### Shifts and the bit that comes in -/

theorem getLsbD_zero_eq (v : Word) : v.getLsbD 0 = (v.toNat % 2 == 1) := by
  rw [BitVec.getLsbD, Nat.testBit_zero]
  rfl

/-- The sign of a value within its width. -/
theorem signW_of_masked {w8 : Bool} {v : Word} (h : maskW w8 v = v) :
    signW w8 v = decide ((maskNat w8 + 1) / 2 ≤ v.toNat) := by
  rw [signW_eq, Nat.mod_eq_of_lt (masked_lt h)]

/-- A shift to the left leaves bit 0 free for the bit that comes in. -/
theorem shiftLeft_or_bit (v : Word) (c : Bool) :
    v <<< 1 ||| BitVec.ofNat 16 c.toNat = BitVec.ofNat 16 (2 * v.toNat + c.toNat) := by
  have hbit : c.toNat < 2 ^ 1 := c.toNat_lt
  have hshift : v <<< 1 = BitVec.ofNat 16 (v.toNat <<< 1) :=
    BitVec.eq_of_toNat_eq (by rw [BitVec.toNat_shiftLeft, BitVec.toNat_ofNat])
  rw [hshift, ← BitVec.ofNat_or, ← Nat.shiftLeft_add_eq_or_of_lt hbit, Nat.shiftLeft_eq, Nat.mul_comm]

theorem shiftRight_one_eq (v : Word) : v >>> 1 = BitVec.ofNat 16 (v.toNat / 2) :=
  BitVec.eq_of_toNat_eq (by
    have := v.isLt
    rw [BitVec.toNat_ushiftRight, Nat.shiftRight_one, BitVec.toNat_ofNat]
    omega)

theorem modulus_eq_two_mul_half (w8 : Bool) : maskNat w8 + 1 = 2 * ((maskNat w8 + 1) / 2) := by
  cases w8 <;> rfl

/-- Half of a value within the width leaves the top bit of the width free. -/
theorem half_lt_of_masked {w8 : Bool} {v : Word} (h : maskW w8 v = v) : v.toNat / 2 < (maskNat w8 + 1) / 2 := by
  have := masked_lt h
  have := modulus_eq_two_mul_half w8
  omega

/-- A shift to the right leaves the top bit of the width free for the bit that comes in. -/
theorem shiftRight_or_topBit {w8 : Bool} {v : Word} (h : maskW w8 v = v) (c : Bool) :
    v >>> 1 ||| topBit w8 c = BitVec.ofNat 16 (v.toNat / 2 + c.toNat * ((maskNat w8 + 1) / 2)) := by
  have htop : topBit w8 c = BitVec.ofNat 16 ((maskNat w8 + 1) / 2 * c.toNat) := by
    cases w8 <;> cases c <;> rfl
  have hpow : (maskNat w8 + 1) / 2 = 2 ^ (if w8 then 7 else 15) := by
    cases w8 <;> rfl
  have hlow := half_lt_of_masked h
  rw [hpow] at hlow
  rw [shiftRight_one_eq, htop, ← BitVec.ofNat_or, Nat.or_comm, hpow, ← Nat.two_pow_add_eq_or_of_lt hlow, Nat.add_comm,
    Nat.mul_comm]

theorem loByte_ofNat (r : Nat) : loByte (BitVec.ofNat 16 r) = BitVec.ofNat 8 r := by
  apply BitVec.eq_of_toNat_eq
  rw [loByte_toNat, BitVec.toNat_ofNat, BitVec.toNat_ofNat]
  omega

/-! ### Results with their flags -/

/-- The word of a number `r` within the width of M, and the state with C and with N and Z of `r` (R42). -/
def numberResult (r : Nat) (c : Bool) (s : State) : Word × State :=
  (BitVec.ofNat 16 r, { s with fC := c, fZ := r == 0, fN := decide ((maskNat s.fM + 1) / 2 ≤ r) })

/-- N and Z of a number within the width (R42). -/
theorem setZN_ofNat {w8 : Bool} {r : Nat} (hr : r < maskNat w8 + 1) (s : State) :
    setZN (BitVec.ofNat 16 r) w8 s = { s with fZ := r == 0, fN := decide ((maskNat w8 + 1) / 2 ≤ r) } := by
  have hword : (BitVec.ofNat 16 r).toNat = r := by
    rw [BitVec.toNat_ofNat]
    exact Nat.mod_eq_of_lt (hr.trans_le (Nat.le_of_dvd (by decide) (modulus_dvd w8)))
  have hmask : maskW w8 (BitVec.ofNat 16 r) = BitVec.ofNat 16 r := maskW_of_lt (hword.symm ▸ hr)
  have hzero : (BitVec.ofNat 16 r == 0) = (r == 0) := by
    rw [Bool.eq_iff_iff, beq_iff_eq, beq_iff_eq, ← BitVec.toNat_inj, hword]
    rfl
  rw [setZN_of_masked hmask, signW_of_masked hmask, hword, hzero]

theorem mod_lt_modulus (w8 : Bool) (n : Nat) : n % (maskNat w8 + 1) < maskNat w8 + 1 := Nat.mod_lt _ (Nat.succ_pos _)

theorem rmwAsl_eq {v : Word} {s : State} (h : maskW s.fM v = v) :
    rmwAsl v s = numberResult (2 * v.toNat % (maskNat s.fM + 1)) (decide ((maskNat s.fM + 1) / 2 ≤ v.toNat)) s := by
  have hr : maskW s.fM (v <<< 1) = BitVec.ofNat 16 (2 * v.toNat % (maskNat s.fM + 1)) := by
    rw [← maskW_ofNat]
    exact congrArg _ ((BitVec.or_zero ..).symm.trans (shiftLeft_or_bit v false))
  rw [rmwAsl, hr, setZN_ofNat (mod_lt_modulus _ _), signW_of_masked h, numberResult]

theorem rmwRol_eq {v : Word} {s : State} (h : maskW s.fM v = v) :
    rmwRol v s = numberResult ((2 * v.toNat + s.fC.toNat) % (maskNat s.fM + 1))
      (decide ((maskNat s.fM + 1) / 2 ≤ v.toNat)) s := by
  rw [rmwRol, shiftLeft_or_bit, maskW_ofNat, setZN_ofNat (mod_lt_modulus _ _), signW_of_masked h, numberResult]

theorem rmwRor_eq {v : Word} {s : State} (h : maskW s.fM v = v) :
    rmwRor v s = numberResult (v.toNat / 2 + s.fC.toNat * ((maskNat s.fM + 1) / 2)) (v.toNat % 2 == 1) s := by
  have hr : v.toNat / 2 + s.fC.toNat * ((maskNat s.fM + 1) / 2) < maskNat s.fM + 1 := by
    have hlow := half_lt_of_masked h
    have htop := Nat.mul_le_mul_right ((maskNat s.fM + 1) / 2) s.fC.toNat_le
    have := modulus_eq_two_mul_half s.fM
    omega
  rw [rmwRor, shiftRight_or_topBit h, setZN_ofNat hr, getLsbD_zero_eq, numberResult]

theorem rmwLsr_eq {v : Word} {s : State} (h : maskW s.fM v = v) :
    rmwLsr v s = numberResult (v.toNat / 2) (v.toNat % 2 == 1) s := by
  have hr : v.toNat / 2 < maskNat s.fM + 1 := (Nat.div_le_self _ _).trans_lt (masked_lt h)
  rw [rmwLsr, shiftRight_one_eq, setZN_ofNat hr, getLsbD_zero_eq, numberResult]

theorem rmwInc_eq (v : Word) (s : State) :
    rmwInc v s = numberResult ((v.toNat + 1) % (maskNat s.fM + 1)) s.fC s := by
  have hr : maskW s.fM (v + 1) = BitVec.ofNat 16 ((v.toNat + 1) % (maskNat s.fM + 1)) := by
    rw [← maskW_ofNat, BitVec.ofNat_add, BitVec.ofNat_toNat, BitVec.setWidth_eq]
    rfl
  rw [rmwInc, hr, setZN_ofNat (mod_lt_modulus _ _), numberResult]

/-- One less at the width is one less modulo the width's modulus. -/
theorem maskW_sub_one (w8 : Bool) (v : Word) :
    maskW w8 (v - 1) = BitVec.ofNat 16 ((v.toNat + (maskNat w8 + 1) - 1) % (maskNat w8 + 1)) := by
  have hsub : v - 1 = BitVec.ofNat 16 (v.toNat + 0xFFFF) := by
    rw [BitVec.ofNat_add, BitVec.ofNat_toNat, BitVec.setWidth_eq]
    exact BitVec.sub_eq_add_neg v 1
  rw [hsub, maskW_ofNat]
  congr 1
  cases w8 <;> simp only [maskNat, Bool.false_eq_true, if_false, if_true] <;> omega

theorem rmwDec_eq (v : Word) (s : State) :
    rmwDec v s = numberResult ((v.toNat + (maskNat s.fM + 1) - 1) % (maskNat s.fM + 1)) s.fC s := by
  rw [rmwDec, maskW_sub_one, setZN_ofNat (mod_lt_modulus _ _), numberResult]

theorem maskW_and (w8 : Bool) (v w : Word) : maskW w8 (v &&& w) = maskW w8 v &&& w := by
  cases w8 with
  | false => rfl
  | true => simp only [maskW, if_true, BitVec.and_assoc, BitVec.and_comm w]

/-- TRB (R163): what is left of an operand within its width is within it. -/
theorem rmwTrb_eq {v : Word} {s : State} (h : maskW s.fM v = v) :
    rmwTrb v s = (v &&& ~~~(accW s), { s with fZ := accW s &&& v == 0 }) := by
  rw [rmwTrb, maskW_and, h]
  rfl

end Sys2Proof.Machine
end

section
/-! Stores and read-modify-write instructions (42_store_rmw.md R150 to R164): the bus cycles of an operand, then what
each instruction gives, in every form. -/

namespace Sys2Proof.Machine

/-- Settles O25: each of the shared operations while the host is quiet. -/
theorem operandBus : Obligations.OperandBus :=
  fun _ p v _ hs hf => ⟨readOperand_quiet hs p true, readOperand_quiet hs p false, writeOperand_quiet hs p v true,
    writeOperand_quiet hs p v false, rmwAt_quiet8 hs p hf, rmwAt_quiet16 hs p hf⟩

/-- A store instruction, given the word it stores and the width (R151 to R154). -/
theorem exec_storeData {i : Instr} {o : MemOperand} {mn : Mnemonic} {v : Word} {w8 : Bool} {s : State} (hs : Quiet s)
    (hm : memWf s.mem = true) (ho : operandOf i = some (.mem o)) (hmn : mnemonicOf i = mn)
    (hmeaning : dataMeaning mn (.mem o) s = storeData o v w8 s) :
    AnswersStoring (exec i s)
      { s with
        pc := s.pc + memOperandLength o
        intWanted := pollValue s
        trace := storeTrace o v w8 s }
      (bytesStored (address o true s).1 v w8 s) := by
  obtain ⟨m, e, hbytes⟩ := storeData_quiet hs hm o v w8
  exact ⟨m, exec_of_mnemonic ho hmn (hmeaning.trans e), hbytes⟩

/-- Settles O34: `exec_storeData` for each of the three registers and for zero. -/
theorem storeResult : Obligations.StoreResult :=
  ⟨fun _ _ _ => ⟨isForm_rows, isForm_rows, isForm_rows, isForm_rows⟩, fun _ _ _ hs hm ho =>
    ⟨fun hmn => exec_storeData hs hm ho hmn rfl, fun hmn => exec_storeData hs hm ho hmn rfl,
      fun hmn => exec_storeData hs hm ho hmn rfl, fun hmn => exec_storeData hs hm ho hmn rfl⟩⟩

/-- A read-modify-write instruction on memory, given what its function makes of the operand in a state that differs in
PC and the record of events alone. -/
theorem exec_rmwMem {i : Instr} {o : MemOperand} {mn : Mnemonic} {f : Word → State → Word × State} {s : State}
    {r : Word} {n z c : Bool} (hs : Quiet s) (hm : memWf s.mem = true) (ho : operandOf i = some (.mem o)) (hf : FlagsOnly f)
    (hmn : mnemonicOf i = mn) (hmeaning : dataMeaning mn (.mem o) s = rmwMem f o s)
    (hr : ∀ pc tr, f (valueAt (address o true s).1 s.fM s) { s with pc := pc, trace := tr } =
      (r, { s with pc := pc, trace := tr, fN := n, fZ := z, fC := c })) :
    AnswersStoring (exec i s)
      { s with
        fN := n
        fZ := z
        fC := c
        pc := s.pc + memOperandLength o
        intWanted := pollValue s
        trace := rmwTrace o r s }
      (bytesStored (address o true s).1 r s.fM s) := by
  obtain ⟨m, tr, e, hbytes⟩ := rmwMem_quiet hs hm o hf
  rw [hr] at e hbytes
  exact ⟨m, exec_of_mnemonic ho hmn (hmeaning.trans e), hbytes⟩

/-- Settles O35: `exec_rmwMem` for each of the six functions, the operand being within the width. -/
theorem rmwMemoryResult : Obligations.RmwMemoryResult := by
  refine ⟨fun m x b => ⟨isForm_rows, isForm_rows, isForm_rows, isForm_rows, isForm_rows, isForm_rows⟩,
    fun i o s hs hm ho => ?_⟩
  have hv := maskW_valueAt (address o true s).1 s.fM s
  exact ⟨fun hmn => exec_rmwMem hs hm ho rmwAsl_flagsOnly hmn rfl fun _ _ => rmwAsl_eq hv,
    fun hmn => exec_rmwMem hs hm ho rmwLsr_flagsOnly hmn rfl fun _ _ => rmwLsr_eq hv,
    fun hmn => exec_rmwMem hs hm ho rmwRol_flagsOnly hmn rfl fun _ _ => rmwRol_eq hv,
    fun hmn => exec_rmwMem hs hm ho rmwRor_flagsOnly hmn rfl fun _ _ => rmwRor_eq hv,
    fun hmn => exec_rmwMem hs hm ho rmwInc_flagsOnly hmn rfl fun _ _ => rmwInc_eq _ _,
    fun hmn => exec_rmwMem hs hm ho rmwDec_flagsOnly hmn rfl fun _ _ => rmwDec_eq _ _⟩

/-- Settles O36: as O35, with Z alone of the flags. -/
theorem testBitsResult : Obligations.TestBitsResult := by
  refine ⟨fun m x b => ⟨isForm_rows, isForm_rows⟩, fun i o s hs hm ho => ?_⟩
  have hv := maskW_valueAt (address o true s).1 s.fM s
  exact ⟨fun hmn => exec_rmwMem hs hm ho rmwTsb_flagsOnly hmn rfl fun _ _ => rfl,
    fun hmn => exec_rmwMem hs hm ho rmwTrb_flagsOnly hmn rfl fun _ _ => rmwTrb_eq hv⟩

/-- The accumulator takes the word of a number at the width of M. -/
theorem mergeAcc_ofNat (w8 : Bool) (a : Word) (r : Nat) :
    mergeAcc w8 a (BitVec.ofNat 16 r) = if w8 then mkWord (hiByte a) (BitVec.ofNat 8 r) else BitVec.ofNat 16 r := by
  rw [mergeAcc, loByte_ofNat]

/-- An accumulator form, given the number its function makes of Aw after the implied access. -/
theorem rmwAcc_eq {f : Word → State → Word × State} {s : State} {r : Nat} {c : Bool} (hs : Quiet s) (hf : FlagsOnly f)
    (hr : f (accW s) (afterImplied s) = numberResult r c (afterImplied s)) :
    rmwAcc f s = { afterImplied s with
      a := if s.fM then mkWord (hiByte s.a) (BitVec.ofNat 8 r) else BitVec.ofNat 16 r
      fC := c
      fZ := r == 0
      fN := decide ((maskNat s.fM + 1) / 2 ≤ r) } := by
  rw [rmwAcc_quiet hs hf, hr, numberResult]
  dsimp only
  rw [mergeAcc_ofNat]
  rfl

/-- Settles O37: `rmwAcc_eq` for each of the six functions, Aw being within the width. -/
theorem rmwAccumulatorResult : Obligations.RmwAccumulatorResult := by
  refine ⟨fun m x b => ⟨rfl, rfl, rfl, rfl, rfl, rfl⟩, fun s hs => ?_⟩
  have hv : maskW (afterImplied s).fM (accW s) = accW s := maskW_accW s
  exact ⟨congrArg Host.Outcome.next (rmwAcc_eq hs rmwAsl_flagsOnly (rmwAsl_eq hv)),
    congrArg Host.Outcome.next (rmwAcc_eq hs rmwLsr_flagsOnly (rmwLsr_eq hv)),
    congrArg Host.Outcome.next (rmwAcc_eq hs rmwRol_flagsOnly (rmwRol_eq hv)),
    congrArg Host.Outcome.next (rmwAcc_eq hs rmwRor_flagsOnly (rmwRor_eq hv)),
    congrArg Host.Outcome.next (rmwAcc_eq hs rmwInc_flagsOnly (rmwInc_eq _ _)),
    congrArg Host.Outcome.next (rmwAcc_eq hs rmwDec_flagsOnly (rmwDec_eq _ _))⟩

end Sys2Proof.Machine
end

section
/-! What the register, flag and mode-switch instructions do while the host only answers from its memory
(43_register_flag.md): an instruction after its implied access, a value put into a register with its N and Z, the bytes
of A exchanged, C exchanged with E, and the flag byte changed bit by bit. -/

namespace Sys2Proof.Machine

/-- An instruction that updates the state after the implied access (R111). -/
theorem exec_implied {i : Instr} {f : State → State} {s t : State} (hs : Quiet s) (hf : f (afterImplied s) = t)
    (hexec : exec i s = .next (f (adrImp s))) : exec i s = .next t := by
  rw [hexec, adrImp_eq_afterImplied hs, hf]

/-! ### Registers at a width -/

theorem maskW_eq_ite (w8 : Bool) (v : Word) : maskW w8 v = if w8 then zextByte (loByte v) else v := by
  cases w8
  · rfl
  · exact maskW_true v

/-- N and Z of a value cut to the width are those of what was written (R42). -/
theorem setZN_maskW (v : Word) (w8 : Bool) (s : State) :
    setZN (maskW w8 v) w8 s =
      let r := if w8 then zextByte (loByte v) else v
      { s with fZ := r == 0, fN := signW w8 r } := by
  rw [setZN_of_masked (maskW_maskW w8 v), maskW_eq_ite]

theorem putX_eq (v : Word) (s : State) :
    putX v s =
      let r := if s.fX then zextByte (loByte v) else v
      { s with x := r, fZ := r == 0, fN := signW s.fX r } := by
  rw [putX, setZN_maskW, maskW_eq_ite]

theorem putY_eq (v : Word) (s : State) :
    putY v s =
      let r := if s.fX then zextByte (loByte v) else v
      { s with y := r, fZ := r == 0, fN := signW s.fX r } := by
  rw [putY, setZN_maskW, maskW_eq_ite]

/-- A transfer to A keeps B when M is 1 (R189, R190). -/
theorem putAccW_eq (v : Word) (s : State) :
    putAccW v s =
      if s.fM then
        { s with
          a := mkWord (hiByte s.a) (loByte v)
          fZ := zextByte (loByte v) == 0
          fN := signW true (zextByte (loByte v)) }
      else { s with a := v, fZ := v == 0, fN := signW false v } := by
  rw [putAccW, setZN_maskW, setAccW, mergeAcc]
  cases s.fM <;> rfl

theorem putAcc16_eq (v : Word) (s : State) :
    putAcc16 v s = { s with a := v, fZ := v == 0, fN := v.getLsbD 15 } := rfl

theorem putDp_eq (v : Word) (s : State) : putDp v s = { s with dp := v, fZ := v == 0, fN := v.getLsbD 15 } := rfl

/-- SP keeps to page $01 when E is 1 (R23). -/
theorem putSp_eq (v : Word) (s : State) :
    putSp v s = { s with sp := if s.fE then 0x0100#16 ||| (v &&& 0x00FF#16) else v } := by
  rw [putSp, coerceSp, pageOne_eq]

/-! ### One more and one less -/

theorem add_one_eq_ofNat (v : Word) : v + 1 = BitVec.ofNat 16 (v.toNat + 1) := by
  rw [BitVec.ofNat_add, BitVec.ofNat_toNat, BitVec.setWidth_eq]
  rfl

theorem sub_one_eq_ofNat (v : Word) : v - 1 = BitVec.ofNat 16 (v.toNat + 0xFFFF) := by
  rw [BitVec.ofNat_add, BitVec.ofNat_toNat, BitVec.setWidth_eq]
  exact BitVec.sub_eq_add_neg v 1

/-- A number put into X is taken modulo the width's modulus, and N and Z are those of the remainder (R200, R202). -/
theorem putX_number {v : Word} {n : Nat} (hv : v = BitVec.ofNat 16 n) (s : State) :
    putX v s =
      let r := n % (maskNat s.fX + 1)
      { s with x := BitVec.ofNat 16 r, fZ := r == 0, fN := decide ((maskNat s.fX + 1) / 2 ≤ r) } := by
  rw [putX, hv, maskW_ofNat, setZN_ofNat (mod_lt_modulus _ _)]

/-- As `putX_number`, for Y (R201, R203). -/
theorem putY_number {v : Word} {n : Nat} (hv : v = BitVec.ofNat 16 n) (s : State) :
    putY v s =
      let r := n % (maskNat s.fX + 1)
      { s with y := BitVec.ofNat 16 r, fZ := r == 0, fN := decide ((maskNat s.fX + 1) / 2 ≤ r) } := by
  rw [putY, hv, maskW_ofNat, setZN_ofNat (mod_lt_modulus _ _)]

/-! ### XBA and XCE -/

theorem zextByte_beq_zero (b : Byte) : (zextByte b == 0) = (b == 0) := by
  rw [Bool.eq_iff_iff, beq_iff_eq, beq_iff_eq, ← BitVec.toNat_inj, ← BitVec.toNat_inj, zextByte_toNat]
  rfl

theorem signW_true_zextByte (b : Byte) : signW true (zextByte b) = b.getLsbD 7 := by
  simp [signW, zextByte]

/-- N and Z at eight bits are those of the low byte (R42). -/
theorem setZN_mkWord_true (hi lo : Byte) (s : State) :
    setZN (mkWord hi lo) true s = { s with fZ := lo == 0, fN := lo.getLsbD 7 } := by
  rw [setZN, isZeroW, ← signW_maskW, maskW_true, loByte_mkWord, signW_true_zextByte, ← zextByte_beq_zero]
  rfl

theorem idle_poll_idle_quiet {s : State} (hs : Quiet s) :
    idle (poll (idle s)) = { s with
      intWanted := pollValue s
      trace := s.trace ++ [.idle false, .poll (pollValue s), .idle false] } := by
  rw [idle_quiet hs, poll_eq, idle_quiet (by exact hs)]
  simp only [pollValue, List.append_assoc, List.cons_append, List.nil_append]

/-- XBA (R204): no bus cycle but the two idles, the poll between them. -/
theorem swapAccBytes_quiet {s : State} (hs : Quiet s) :
    swapAccBytes s = { s with
      a := mkWord (loByte s.a) (hiByte s.a)
      fZ := hiByte s.a == 0
      fN := (hiByte s.a).getLsbD 7
      intWanted := pollValue s
      trace := s.trace ++ [.idle false, .poll (pollValue s), .idle false] } := by
  rw [swapAccBytes, setZN_mkWord_true, idle_poll_idle_quiet (by exact hs)]
  rfl

/-- XCE with C equal to E changes nothing (R205). -/
theorem exchangeCE_of_eq {s : State} (h : s.fC = s.fE) : exchangeCE s = s := by
  rw [exchangeCE, if_pos (beq_iff_eq.mpr h.symm)]
  exact congrArg (fun c => { s with fC := c }) h.symm

theorem exchangeCE_to_emulation {s : State} (hC : s.fC = true) (hE : s.fE = false) :
    exchangeCE s = { s with
      fE := true, fC := false, fM := true, fX := true
      sp := 0x0100#16 ||| (s.sp &&& 0x00FF#16), x := s.x &&& 0x00FF#16, y := s.y &&& 0x00FF#16 } := by
  rw [exchangeCE, hC, hE, ← pageOne_eq]
  rfl

theorem exchangeCE_to_native {s : State} (hC : s.fC = false) (hE : s.fE = true) :
    exchangeCE s = { s with fE := false, fC := true, fM := false, fX := false } := by
  rw [exchangeCE, hC, hE]
  rfl

/-! ### REP and SEP -/

/-- `f` changes a flag byte bit by bit: bit `n` becomes what `g` makes of it. -/
def Bitwise (f : Byte → Byte) (g : Bool → Nat → Bool) : Prop :=
  ∀ p : Byte, ∀ n < 8, (f p).getLsbD n = g (p.getLsbD n) n

theorem bitwise_rep (mask : Byte) : Bitwise (fun p => p &&& ~~~mask) fun old n => old && !mask.getLsbD n := by
  intro p n hn
  rw [BitVec.getLsbD_and, BitVec.getLsbD_not, decide_eq_true hn, Bool.true_and]

theorem bitwise_sep (mask : Byte) : Bitwise (fun p => p ||| mask) fun old n => old || mask.getLsbD n :=
  fun _ _ _ => BitVec.getLsbD_or

/-- The flags changed one by one by `g`, and what SetFlags does besides (R41): E = 1 pins M, flag X and SP's page, and
flag X clears the upper bytes of X and Y. -/
def changedFlags (g : Bool → Nat → Bool) (s : State) : State :=
  { s with
    fN := g s.fN 7, fV := g s.fV 6, fM := s.fE || g s.fM 5, fX := s.fE || g s.fX 4
    fD := g s.fD 3, fI := g s.fI 2, fZ := g s.fZ 1, fC := g s.fC 0
    sp := if s.fE then 0x0100#16 ||| (s.sp &&& 0x00FF#16) else s.sp
    x := maskW (s.fE || g s.fX 4) s.x
    y := maskW (s.fE || g s.fX 4) s.y }

theorem setFlags_bitwise {f : Byte → Byte} {g : Bool → Nat → Bool} (hf : Bitwise f g) (s : State) :
    setFlags (f (getFlags s)) s = changedFlags g s := by
  obtain ⟨h7, h6, h5, h4, h3, h2, h1, h0⟩ := getLsbD_getFlags s
  have bit : ∀ n < 8, (f (getFlags s)).getLsbD n = g ((getFlags s).getLsbD n) n := hf _
  rw [setFlags, pageOne_eq, bit 7 (by decide), bit 6 (by decide), bit 5 (by decide), bit 4 (by decide),
    bit 3 (by decide), bit 2 (by decide), bit 1 (by decide), bit 0 (by decide), h7, h6, h5, h4, h3, h2, h1, h0]
  rfl

/-- REP and SEP (R208, R209): the poll sees the flags as they were. -/
theorem changeFlags_quiet {f : Byte → Byte} {g : Bool → Nat → Bool} {s : State} (hs : Quiet s) (hf : Bitwise f g)
    (mask : Byte) :
    changeFlags f mask s = { changedFlags g s with
      pc := s.pc + 1
      intWanted := pollValue s
      trace := s.trace ++ [.read (pcAddr s) mask, .poll (pollValue s), .idle false] } := by
  rw [changeFlags, fetchByte_quiet hs, poll_eq]
  dsimp only
  rw [setFlags_bitwise hf, idle_quiet (by exact hs)]
  simp only [changedFlags, pollValue, List.append_assoc, List.cons_append, List.nil_append]

end Sys2Proof.Machine
end

section
/-! The register, flag and mode-switch instructions (43_register_flag.md R181 to R209): what each gives. -/

namespace Sys2Proof.Machine

/-- Settles O39: the value goes through `putX_eq`, `putY_eq` or `putAccW_eq` at the width of the destination. -/
theorem indexTransfers : Obligations.IndexTransfers :=
  ⟨fun _ _ _ => ⟨rfl, rfl, rfl, rfl, rfl, rfl, rfl⟩, fun s hs =>
    ⟨exec_implied hs (putX_eq s.a _) rfl, exec_implied hs (putY_eq s.a _) rfl, exec_implied hs (putY_eq s.x _) rfl,
      exec_implied hs (putX_eq s.y _) rfl, exec_implied hs (putX_eq s.sp _) rfl,
      exec_implied hs (putAccW_eq s.x _) rfl, exec_implied hs (putAccW_eq s.y _) rfl⟩⟩

/-- Settles O40: as O39, with the sixteen-bit destinations. -/
theorem pointerTransfers : Obligations.PointerTransfers :=
  ⟨fun _ _ _ => ⟨rfl, rfl, rfl, rfl, rfl⟩, fun s hs =>
    ⟨exec_implied hs (putSp_eq s.x _) rfl, exec_implied hs (putSp_eq s.a _) rfl,
      exec_implied hs (putAcc16_eq s.sp _) rfl, exec_implied hs (putDp_eq s.a _) rfl,
      exec_implied hs (putAcc16_eq s.dp _) rfl⟩⟩

/-- Settles O41: the sum and the difference are words of numbers, so `putX_number` and `putY_number` apply. -/
theorem indexSteps : Obligations.IndexSteps :=
  ⟨fun _ _ _ => ⟨rfl, rfl, rfl, rfl⟩, fun s hs =>
    ⟨exec_implied hs (putX_number (add_one_eq_ofNat s.x) _) rfl,
      exec_implied hs (putY_number (add_one_eq_ofNat s.y) _) rfl,
      exec_implied hs (putX_number (sub_one_eq_ofNat s.x) _) rfl,
      exec_implied hs (putY_number (sub_one_eq_ofNat s.y) _) rfl⟩⟩

/-- Settles O42: XBA is `swapAccBytes_quiet`; XCE by its three cases, which the implied access leaves as they are. -/
theorem exchanges : Obligations.Exchanges :=
  ⟨fun _ _ _ => ⟨rfl, rfl⟩, fun s hs =>
    ⟨congrArg Host.Outcome.next (swapAccBytes_quiet hs),
      fun hCE => exec_implied hs (exchangeCE_of_eq (s := afterImplied s) hCE) rfl,
      fun hC hE => exec_implied hs (exchangeCE_to_emulation (s := afterImplied s) hC hE) rfl,
      fun hC hE => exec_implied hs (exchangeCE_to_native (s := afterImplied s) hC hE) rfl⟩⟩

/-- Settles O44: `changeFlags_quiet`, the mask bits acting one by one. -/
theorem repSep : Obligations.RepSep :=
  ⟨fun _ _ _ => ⟨rfl, rfl⟩, fun _ mask hs =>
    ⟨congrArg Host.Outcome.next (changeFlags_quiet hs (bitwise_rep mask) mask),
      congrArg Host.Outcome.next (changeFlags_quiet hs (bitwise_sep mask) mask)⟩⟩

/-- Settles O38: the flag is written after the implied access, so the poll does not see it. -/
theorem flagInstructions : Obligations.FlagInstructions := by
  refine ⟨fun _ _ _ => ⟨rfl, rfl, rfl, rfl, rfl, rfl, rfl⟩, fun s hs => ?_⟩
  rw [← adrImp_eq_afterImplied hs]
  exact ⟨rfl, rfl, rfl, rfl, rfl, rfl, rfl⟩

/-- WDM polls before it fetches the byte it drops (R207). -/
theorem exec_wdm_quiet {s : State} (hs : Quiet s) (sig : Byte) :
    exec (.wdm sig) s = .next { s with
      pc := s.pc + 1
      intWanted := pollValue s
      trace := s.trace ++ [.poll (pollValue s), .read (pcAddr s) sig] } := by
  have hfetch := fetchByte_quiet (s := poll s) hs sig
  rw [poll_eq, List.append_assoc] at hfetch
  exact congrArg Host.Outcome.next hfetch

/-- Settles O43: NOP is the implied access itself, WDM is `exec_wdm_quiet`. -/
theorem noOperations : Obligations.NoOperations :=
  ⟨fun _ _ _ => ⟨rfl, rfl⟩, fun _ sig hs =>
    ⟨congrArg Host.Outcome.next (adrImp_eq_afterImplied hs), exec_wdm_quiet hs sig⟩⟩

end Sys2Proof.Machine
end

section
/-! What the stack instructions do while the host only answers from its memory (44_stack.md R230): the push and the pull
shapes at eight and at sixteen bits, and a pulled value put into its register with N and Z. -/

namespace Sys2Proof.Machine

/-! ### Pushes -/

/-- A word pushed with the poll between its bytes (R76). -/
theorem pushWord_polled {s : State} (hs : Quiet s) (v : Word) :
    pushWord v true s = { s with
      mem := memPushed s.fE s.sp [hiByte v, loByte v] s.mem
      sp := spPushed s.fE s.sp 2
      intWanted := pollValue s
      trace := s.trace ++ [.write (bank0 s.sp) (hiByte v), .poll (pollValue s),
        .write (bank0 (spPushed s.fE s.sp 1)) (loByte v)] } := by
  rw [pushWord_quiet hs]
  simp only [pollEvents, if_true, List.append_assoc, List.cons_append, List.nil_append]
  rfl

theorem push8_pushes {s : State} (hs : Quiet s) (hm : memWf s.mem = true) (b : Byte) :
    Pushes8 (.next (push8 b s)) s b := by
  refine ⟨memPushed s.fE s.sp [b] s.mem, ?_, memRead_memPushed s.fE s.sp [b] hm⟩
  rw [push8, idle_quiet hs, poll_eq, pushByte_quiet (by exact hs), List.append_assoc, List.append_assoc]
  rfl

theorem push16_pushes {s : State} (hs : Quiet s) (hm : memWf s.mem = true) (v : Word) :
    Pushes16 (.next (push16 v s)) s v := by
  refine ⟨memPushed s.fE s.sp [hiByte v, loByte v] s.mem, ?_, memRead_memPushed s.fE s.sp _ hm⟩
  rw [push16, idle_quiet hs, pushWord_polled (by exact hs), List.append_assoc]
  rfl

theorem pushSized_pushes {s : State} (hs : Quiet s) (hm : memWf s.mem = true) (w8 : Bool) (v : Word) :
    if w8 then Pushes8 (.next (pushSized w8 v s)) s (loByte v) else Pushes16 (.next (pushSized w8 v s)) s v := by
  cases w8
  · exact push16_pushes hs hm v
  · exact push8_pushes hs hm (loByte v)

/-! ### Pulls -/

theorem pull8_quiet {s : State} (hs : Quiet s) : pull8 s = (stackByte s 1, afterPull8 s) := by
  rw [pull8, idle_quiet hs, idle_quiet (by exact hs), poll_eq, pullByte_quiet (by exact hs), afterPull8]
  simp only [List.append_assoc, List.cons_append, List.nil_append]
  rfl

theorem pull16_quiet {s : State} (hs : Quiet s) : pull16 s = (stackWord s, afterPull16 s) := by
  rw [pull16, idle_quiet hs, idle_quiet (by exact hs), pullWord_quiet (by exact hs), afterPull16]
  simp only [pollEvents, if_true, List.append_assoc, List.cons_append, List.nil_append]
  rfl

/-- The 8-bit pull shape and what is done with its byte. -/
theorem pullThen_pull8 {s t : State} {put : Byte → State → State} (hs : Quiet s)
    (hput : put (stackByte s 1) (afterPull8 s) = t) : pullThen (pull8 s) put = t := by
  rw [pull8_quiet hs, pullThen, hput]

/-- The 16-bit pull shape and what is done with its word. -/
theorem pullThen_pull16 {s t : State} {put : Word → State → State} (hs : Quiet s)
    (hput : put (stackWord s) (afterPull16 s) = t) : pullThen (pull16 s) put = t := by
  rw [pull16_quiet hs, pullThen, hput]

/-- A pull at the width of a flag, from what is done with the byte and with the word. -/
theorem pullThen_pullSized {s t8 t16 : State} {w8 : Bool} {put : Word → State → State} (hs : Quiet s)
    (h8 : w8 = true → put (zextByte (stackByte s 1)) (afterPull8 s) = t8)
    (h16 : w8 = false → put (stackWord s) (afterPull16 s) = t16) :
    pullThen (pullSized w8 s) put = if w8 then t8 else t16 := by
  cases w8
  · exact pullThen_pull16 hs (h16 rfl)
  · exact pullThen_pull8 (put := fun b => put (zextByte b)) hs (h8 rfl)

/-! ### A pulled value in its register -/

/-- N and Z of a byte (R42). -/
theorem setZN_zextByte (b : Byte) (s : State) :
    setZN (zextByte b) true s = { s with fZ := b == 0, fN := b.getLsbD 7 } := by
  rw [setZN_of_masked (maskW_zextByte b), zextByte_beq_zero, signW_true_zextByte]

theorem putDb_eq (b : Byte) (s : State) : putDb b s = { s with db := b, fZ := b == 0, fN := b.getLsbD 7 } :=
  setZN_zextByte b _

theorem putX_byte {s : State} (hX : s.fX = true) (b : Byte) :
    putX (zextByte b) s = { s with x := zextByte b, fZ := b == 0, fN := b.getLsbD 7 } := by
  rw [putX, hX, maskW_zextByte, setZN_zextByte]

theorem putX_word {s : State} (hX : s.fX = false) (v : Word) :
    putX v s = { s with x := v, fZ := v == 0, fN := v.getLsbD 15 } := by
  rw [putX, hX]
  rfl

theorem putY_byte {s : State} (hX : s.fX = true) (b : Byte) :
    putY (zextByte b) s = { s with y := zextByte b, fZ := b == 0, fN := b.getLsbD 7 } := by
  rw [putY, hX, maskW_zextByte, setZN_zextByte]

theorem putY_word {s : State} (hX : s.fX = false) (v : Word) :
    putY v s = { s with y := v, fZ := v == 0, fN := v.getLsbD 15 } := by
  rw [putY, hX]
  rfl

/-- A byte put into A keeps B (R20). -/
theorem putAccW_byte {s : State} (hM : s.fM = true) (b : Byte) :
    putAccW (zextByte b) s = { s with a := mkWord (hiByte s.a) b, fZ := b == 0, fN := b.getLsbD 7 } := by
  rw [putAccW, setAccW, hM, maskW_zextByte, setZN_zextByte, mergeAcc, if_pos rfl, loByte_zextByte]

theorem putAccW_word {s : State} (hM : s.fM = false) (v : Word) :
    putAccW v s = { s with a := v, fZ := v == 0, fN := v.getLsbD 15 } := by
  rw [putAccW, setAccW, hM]
  rfl

/-! ### Push effective address -/

/-- An instruction that pushes a word behind other events. -/
theorem exec_pushWord {i : Instr} {s : State} (hs : Quiet s) (hm : memWf s.mem = true) {n v : Word} {evs : List Event}
    (hexec : exec i s = .next (pushWord v true (afterEvents n evs s))) :
    ∃ m, exec i s = .next { s with
        mem := m
        pc := s.pc + n
        sp := spPushed s.fE s.sp 2
        intWanted := pollValue s
        trace := s.trace ++ evs ++ [.write (bank0 s.sp) (hiByte v), .poll (pollValue s),
          .write (bank0 (spPushed s.fE s.sp 1)) (loByte v)] } ∧
      ∀ a, memRead m a = bytesPushed s.fE s.sp [hiByte v, loByte v] (memRead s.mem) a := by
  refine ⟨memPushed s.fE s.sp [hiByte v, loByte v] s.mem, ?_, memRead_memPushed s.fE s.sp _ hm⟩
  rw [hexec, pushWord_polled (by exact hs)]
  rfl

/-- PEI reads its word from the direct page, then pushes it (R245). -/
theorem pushIndirect_quiet {s : State} (hs : Quiet s) (d : Byte) :
    let off := s.dp + zextByte d
    pushIndirect d s = pushWord (wordAt s.mem (bank0 off) (bank0 (off + 1))) true
      (afterEvents 1 (fetchEvent s 0 d :: (dpIdleEvents s ++ pointerEvents s off)) s) := by
  have hread := fun evs => afterEvents_readPointer hs (n := 1) (evs := evs) (s.dp + zextByte d)
  simp only [readPointer] at hread
  simp only [pushIndirect, adrDp_quiet hs, directPair, hread, pointerWord, List.cons_append]

/-- PER pushes PC after the instruction plus the displacement (R246). -/
theorem pushRelative_quiet {s : State} (hs : Quiet s) (disp : Word) :
    pushRelative disp s = pushWord (s.pc + 2 + disp) true
      (afterEvents 2 [fetchEvent s 0 (loByte disp), fetchEvent s 1 (hiByte disp), .idle false] s) := by
  rw [pushRelative, fetchWord_eq_afterEvents hs, afterEvents_idle hs]
  rfl

end Sys2Proof.Machine
end

section
/-! The stack instructions (44_stack.md R231 to R246): what each gives. -/

namespace Sys2Proof.Machine

/-- Settles O45: each is one of the two push shapes, PHA, PHX and PHY at the width of their flag. -/
theorem pushes : Obligations.Pushes :=
  ⟨fun _ _ _ => ⟨rfl, rfl, rfl, rfl, rfl, rfl, rfl⟩, fun s hs hm =>
    ⟨pushSized_pushes hs hm s.fM s.a, pushSized_pushes hs hm s.fX s.x, pushSized_pushes hs hm s.fX s.y,
      push8_pushes hs hm _, push8_pushes hs hm _, push16_pushes hs hm _, push8_pushes hs hm _⟩⟩

/-- Settles O46: each is one of the two pull shapes, which leave the width flags as they are, and then puts what was
pulled into its register. -/
theorem pulls : Obligations.Pulls :=
  ⟨fun _ _ _ => ⟨rfl, rfl, rfl, rfl, rfl, rfl⟩, fun s hs =>
    ⟨congrArg Host.Outcome.next (pullThen_pullSized hs (fun hM => putAccW_byte (s := afterPull8 s) hM _)
        fun hM => putAccW_word (s := afterPull16 s) hM _),
      congrArg Host.Outcome.next (pullThen_pullSized hs (fun hX => putX_byte (s := afterPull8 s) hX _)
        fun hX => putX_word (s := afterPull16 s) hX _),
      congrArg Host.Outcome.next (pullThen_pullSized hs (fun hX => putY_byte (s := afterPull8 s) hX _)
        fun hX => putY_word (s := afterPull16 s) hX _),
      congrArg Host.Outcome.next (pullThen_pull8 hs rfl),
      congrArg Host.Outcome.next (pullThen_pull8 hs (putDb_eq _ _)),
      congrArg Host.Outcome.next (pullThen_pull16 hs (putDp_eq _ _))⟩⟩

/-- Settles O47: each pushes its word behind the events that gave it, so `exec_pushWord` applies. -/
theorem pushAddresses : Obligations.PushAddresses :=
  ⟨fun _ _ _ => ⟨rfl, rfl, rfl⟩, fun _ c d hs hm =>
    ⟨exec_pushWord hs hm (congrArg (fun t => Host.Outcome.next (pushWord c true t)) (fetchWord_eq_afterEvents hs c)),
      exec_pushWord hs hm (congrArg Host.Outcome.next (pushIndirect_quiet hs d)),
      exec_pushWord hs hm (congrArg Host.Outcome.next (pushRelative_quiet hs c))⟩⟩

end Sys2Proof.Machine
end

section
/-! What the branches and the jumps do while the host only answers from its memory (45_control_flow.md R260 to R275). -/

namespace Sys2Proof.Machine

/-! ### After the poll -/

/-- `s` once `n` more instruction bytes are fetched and `evs` are recorded, the poll among them. -/
def afterPoll (n : Word) (evs : List Event) (s : State) : State := { afterEvents n evs s with intWanted := pollValue s }

/-- A read that a quiet host answers from its memory. -/
def readEvent (s : State) (r : Addr) : Event := .read r (memRead s.mem r.toNat)

section Polled

variable {n : Word} {evs : List Event} {s : State}

theorem afterEvents_poll : poll (afterEvents n evs s) = afterPoll n (evs ++ [.poll (pollValue s)]) s := by
  simp only [poll_eq, afterPoll, afterEvents, pollValue, List.append_assoc]

theorem afterEvents_addPc (d : Word) :
    { afterEvents n evs s with pc := (afterEvents n evs s).pc + d } = afterEvents (n + d) evs s := by
  simp only [afterEvents, BitVec.add_assoc]

theorem afterPoll_addPc {d : Word} :
    { afterPoll n evs s with pc := (afterPoll n evs s).pc + d } = afterPoll (n + d) evs s := by
  simp only [afterPoll, afterEvents, BitVec.add_assoc]

variable (hs : Quiet s)
include hs

theorem afterPoll_idle : idle (afterPoll n evs s) = afterPoll n (evs ++ [.idle false]) s := by
  rw [idle_quiet (by exact hs)]
  simp only [afterPoll, afterEvents, List.append_assoc]

theorem afterPoll_fetchByte (b : Byte) :
    fetchByte b (afterPoll n evs s) = afterPoll (n + 1) (evs ++ [fetchEvent s n b]) s := by
  rw [fetchByte_quiet (by exact hs)]
  simp only [afterPoll, afterEvents, fetchEvent, pcAddr, List.append_assoc, BitVec.add_assoc]

theorem afterPoll_busRead (r : Addr) :
    busRead r (afterPoll n evs s) =
      (memRead s.mem r.toNat, afterPoll n (evs ++ [readEvent s r]) s) := by
  rw [busRead_quiet (by exact hs)]
  simp only [afterPoll, afterEvents, readEvent, List.append_assoc]

/-- A word read with the poll between its bytes (R71). -/
theorem afterEvents_readWord_polled (lo hi : Addr) :
    readWord lo hi true (afterEvents n evs s) = (wordAt s.mem lo hi, afterPoll n (evs ++
      [readEvent s lo, .poll (pollValue s), readEvent s hi]) s) := by
  rw [readWord_quiet (by exact hs)]
  simp only [afterPoll, afterEvents, readEvent, pollEvents, pollValue, if_true, List.append_assoc, List.cons_append,
    List.nil_append]

end Polled

/-! ### Branches -/

/-- PC after a branch (R260): the signed sum of numbers and the sum of words are the same modulo $10000. -/
theorem ofInt_branchTarget (pc d : Word) (n : Int) :
    BitVec.ofInt 16 (pc.toNat + n + d.toInt) = pc + (BitVec.ofInt 16 n + d) := by
  rw [BitVec.ofInt_add, BitVec.ofInt_add, BitVec.ofInt_toInt, BitVec.ofInt_natCast, BitVec.ofNat_toNat,
    BitVec.setWidth_eq, BitVec.add_assoc]

theorem toInt_sextByte (d : Byte) : (sextByte d).toInt = d.toInt :=
  BitVec.toInt_signExtend_of_le (by decide)

section Branches

variable {s : State} (hs : Quiet s)
include hs

/-- Taken: fetch, poll, idle (R260). -/
theorem branchIf_taken (d : Byte) :
    branchIf true d s = afterPoll (1 + sextByte d) [fetchEvent s 0 d, .poll (pollValue s), .idle false] s := by
  rw [branchIf, if_pos rfl, fetchByte_eq_afterEvents hs, afterEvents_poll, afterPoll_idle hs]
  exact afterPoll_addPc

/-- Not taken: poll, fetch (R260). -/
theorem branchIf_not_taken (d : Byte) :
    branchIf false d s = afterPoll 1 [.poll (pollValue s), fetchEvent s 0 d] s := by
  rw [branchIf, if_neg Bool.false_ne_true, poll_eq, fetchByte_quiet (by exact hs)]
  simp only [afterPoll, afterEvents, fetchEvent_zero, pcAddr, List.append_assoc, List.cons_append, List.nil_append]

/-- An instruction that is a branch on a condition: what it answers where the condition holds and where not. -/
theorem exec_branchIf {i : Instr} {d : Byte} {cond : Bool} {p : Prop} (hp : p ↔ cond = true)
    (hexec : exec i s = .next (branchIf cond d s)) :
    (p → exec i s = .next { s with
      pc := BitVec.ofInt 16 (s.pc.toNat + 1 + d.toInt)
      intWanted := pollValue s
      trace := s.trace ++ [fetchEvent s 0 d, .poll (pollValue s), .idle false] }) ∧
    (¬p → exec i s = .next { s with
      pc := s.pc + 1
      intWanted := pollValue s
      trace := s.trace ++ [.poll (pollValue s), fetchEvent s 0 d] }) := by
  have hpc := ofInt_branchTarget s.pc (sextByte d) 1
  rw [toInt_sextByte] at hpc
  rw [hexec, hp, hpc]
  cases cond
  · exact ⟨fun h => absurd h Bool.false_ne_true, fun _ => congrArg Host.Outcome.next (branchIf_not_taken hs d)⟩
  · exact ⟨fun _ => congrArg Host.Outcome.next (branchIf_taken hs d), fun h => absurd rfl h⟩

/-- BRL (R270). -/
theorem branchLong_quiet (disp : Word) :
    branchLong disp s = afterPoll (2 + disp)
      [fetchEvent s 0 (loByte disp), fetchEvent s 1 (hiByte disp), .poll (pollValue s), .idle false] s := by
  rw [branchLong, fetchWord_eq_afterEvents hs]
  simp only [afterEvents_addPc]
  rw [afterEvents_poll, afterPoll_idle hs]
  rfl

end Branches

/-! ### Jumps -/

theorem mkWord_hiByte_zero (v : Word) : mkWord (hiByte v) 0x00#8 = v &&& 0xFF00#16 := by
  have hhi : hiByte (v &&& 0xFF00#16) = hiByte v := BitVec.extractLsb'_and.trans BitVec.and_allOnes
  have hlo : loByte (v &&& 0xFF00#16) = 0x00#8 := BitVec.extractLsb'_and.trans BitVec.and_zero
  rw [← mkWord_hi_lo (v &&& 0xFF00#16), hhi, hlo]

/-- The page wrap of JMP (a) in emulation mode (R272). -/
theorem jumpPointerHi_eq (e : Bool) (a : Word) :
    jumpPointerHi e a = if e = true ∧ loByte a = 0xFF#8 then bank0 (a &&& 0xFF00#16) else bank0 (a + 1) := by
  simp only [jumpPointerHi, Bool.and_eq_true, beq_iff_eq, mkWord_hiByte_zero]

section Jumps

variable {s : State} (hs : Quiet s)
include hs

/-- JMP abs (R271). -/
theorem jumpAbs_quiet (a : Word) :
    jumpAbs a s =
      { afterPoll 2 [fetchEvent s 0 (loByte a), .poll (pollValue s), fetchEvent s 1 (hiByte a)] s with pc := a } := by
  rw [jumpAbs, fetchWord, pollIf_true, fetchByte_eq_afterEvents hs, afterEvents_poll, afterPoll_fetchByte hs]
  rfl

/-- JML long (R275). -/
theorem jumpLong_quiet (l : Addr) :
    jumpLong l s =
      { afterPoll 3 [fetchEvent s 0 (loByte (addrOffset l)), fetchEvent s 1 (hiByte (addrOffset l)),
          .poll (pollValue s), fetchEvent s 2 (addrBank l)] s with
        pc := addrOffset l
        k := addrBank l } := by
  rw [jumpLong, fetchWord_eq_afterEvents hs, afterEvents_poll, afterPoll_fetchByte hs]
  rfl

theorem jumpInd_quiet (a : Word) :
    let hi := jumpPointerHi s.fE a
    jumpInd a s =
      { afterPoll 2 [fetchEvent s 0 (loByte a), fetchEvent s 1 (hiByte a), readEvent s (bank0 a), .poll (pollValue s),
          readEvent s hi] s with
        pc := wordAt s.mem (bank0 a) hi } := by
  simp only [jumpInd, fetchWord_eq_afterEvents hs, afterEvents_readWord_polled hs]
  rfl

/-- JMP (a,X) and JSR (a,X) take their pointer from bank K (R273, R277). -/
theorem jumpThroughIndexed_afterEvents (n : Word) (evs : List Event) (a : Word) :
    let tab := fun n => bankAddr s.k (a + s.x + n)
    jumpThroughIndexed a (afterEvents n evs s) =
      { afterPoll n (evs ++ [readEvent s (tab 0), .poll (pollValue s), readEvent s (tab 1)]) s with
        pc := wordAt s.mem (tab 0) (tab 1) } := by
  simp only [jumpThroughIndexed, afterEvents_readWord_polled hs, add_zero]
  rfl

theorem jumpIndexed_quiet (a : Word) :
    let tab := fun n => bankAddr s.k (a + s.x + n)
    jumpIndexed a s =
      { afterPoll 2 [fetchEvent s 0 (loByte a), fetchEvent s 1 (hiByte a), .idle false,
          readEvent s (tab 0), .poll (pollValue s), readEvent s (tab 1)] s with
        pc := wordAt s.mem (tab 0) (tab 1) } := by
  rw [jumpIndexed, fetchWord_eq_afterEvents hs, afterEvents_idle hs, jumpThroughIndexed_afterEvents hs]
  rfl

theorem jumpIndLong_quiet (a : Word) :
    jumpIndLong a s =
      { afterPoll 2 [fetchEvent s 0 (loByte a), fetchEvent s 1 (hiByte a), readEvent s (bank0 a),
          readEvent s (bank0 (a + 1)), .poll (pollValue s), readEvent s (bank0 (a + 2))] s with
        pc := wordAt s.mem (bank0 a) (bank0 (a + 1))
        k := memRead s.mem (bank0 (a + 2)).toNat } := by
  have hread := afterEvents_readPointer hs (n := 2) (evs := [fetchEvent s 0 (loByte a), fetchEvent s 1 (hiByte a)]) a
  rw [readPointer] at hread
  simp only [jumpIndLong, fetchWord_eq_afterEvents hs, hread, afterEvents_poll, afterPoll_busRead hs]
  rfl

end Jumps

end Sys2Proof.Machine
end

section
/-! Bytes pushed and pulled back (44_stack.md R74, R75): where the pushed bytes stand, what memory holds elsewhere, and
that the pulls give them back in reverse order with SP as it was. -/

namespace Sys2Proof.Machine

/-! ### The addresses of pushed bytes -/

theorem loByte_coerceSp (e : Bool) (v : Word) : loByte (coerceSp e v) = loByte v := by
  cases e
  · rfl
  · exact loByte_mkWord _ _

/-- Each push lowers SP by one within its page or within bank 0, so by one in the low byte either way. -/
theorem loByte_spPushed (e : Bool) (sp : Word) (n : Nat) : loByte (spPushed e sp n) = loByte sp - BitVec.ofNat 8 n := by
  induction n generalizing sp with
  | zero => simp [spPushed]
  | succ n ih =>
    have hone : loByte (sp - 1) = loByte sp - 1 := by
      rw [← BitVec.toNat_inj, BitVec.toNat_sub, loByte_toNat, loByte_toNat, BitVec.toNat_sub]
      have : (1 : Word).toNat = 1 := rfl
      have : (1 : Byte).toNat = 1 := rfl
      omega
    rw [spPushed, ih, loByte_coerceSp, hone, sub_sub, add_comm, BitVec.ofNat_add]
    rfl

theorem spPushed_ne (e : Bool) (sp : Word) {n : Nat} (h0 : 0 < n) (hn : n < 256) : spPushed e sp n ≠ sp := by
  intro h
  have hlo := loByte_spPushed e sp n
  rw [h, ← BitVec.toNat_inj, BitVec.toNat_sub, BitVec.toNat_ofNat] at hlo
  have := (loByte sp).isLt
  omega

/-- The addresses of `n` bytes pushed from `sp` on, the first one first. -/
def pushSlots (e : Bool) (sp : Word) : Nat → List Addr
  | 0 => []
  | n + 1 => bank0 sp :: pushSlots e (coerceSp e (sp - 1)) n

theorem mem_pushSlots {e : Bool} {sp : Word} {n : Nat} {r : Addr} :
    r ∈ pushSlots e sp n ↔ ∃ i < n, r = bank0 (spPushed e sp i) := by
  induction n generalizing sp with
  | zero => simp [pushSlots]
  | succ n ih =>
    rw [pushSlots, List.mem_cons, ih, Nat.exists_lt_succ_left]
    rfl

/-- A push leaves the bytes at other addresses. -/
theorem bytesPushed_of_not_slot {e : Bool} {sp : Word} {bytes : List Byte} {before : Nat → Byte} {r : Addr}
    (h : r ∉ pushSlots e sp bytes.length) : bytesPushed e sp bytes before r.toNat = before r.toNat := by
  induction bytes generalizing sp before with
  | nil => rfl
  | cons b rest ih =>
    obtain ⟨hne, hrest⟩ := not_or.mp (mt List.mem_cons.mpr h)
    rw [bytesPushed, ih hrest, if_neg (mt BitVec.eq_of_toNat_eq hne)]

/-- Up to 256 pushes do not overwrite one another. -/
theorem bytesPushed_slot {e : Bool} {sp : Word} {bytes : List Byte} {before : Nat → Byte} {i : Nat} {b : Byte}
    (hlen : bytes.length ≤ 256) (hi : bytes[i]? = some b) :
    bytesPushed e sp bytes before (bank0 (spPushed e sp i)).toNat = b := by
  induction bytes generalizing sp before i with
  | nil => cases hi
  | cons c rest ih =>
    cases i with
    | zero =>
      have hfree : bank0 sp ∉ pushSlots e (coerceSp e (sp - 1)) rest.length := fun hmem => by
        obtain ⟨i, hi, heq⟩ := mem_pushSlots.mp hmem
        have hlt : i + 1 < 256 := Nat.lt_of_le_of_lt hi hlen
        exact spPushed_ne e sp i.succ_pos hlt (bank0_inj heq).symm
      rw [bytesPushed, spPushed, bytesPushed_of_not_slot hfree, if_pos rfl]
      exact Option.some.inj hi
    | succ i => exact ih (Nat.le_of_succ_le hlen) hi

/-! ### Pulls after pushes -/

/-- `spPushed` from its last push. -/
theorem spPushed_succ (e : Bool) (sp : Word) (n : Nat) : spPushed e sp (n + 1) = coerceSp e (spPushed e sp n - 1) := by
  induction n generalizing sp with
  | zero => rfl
  | succ n ih => exact ih _

theorem hiByte_spPushed_of {e : Bool} {sp : Word} (h : e = true → hiByte sp = 0x01#8) (n : Nat) (he : e = true) :
    hiByte (spPushed e sp n) = 0x01#8 := by
  subst he
  exact hiByte_spPushed (h rfl) n

/-- Some pulls undo as many of the pushes, SP being in its page (R37). -/
theorem spPulled_spPushed {e : Bool} {sp : Word} (h : e = true → hiByte sp = 0x01#8) (n k : Nat) :
    spPulled e (spPushed e sp (n + k)) k = spPushed e sp n := by
  induction k with
  | zero => rfl
  | succ k ih =>
    rw [← Nat.add_assoc, spPushed_succ, spPulled, coerceSp_up_down (hiByte_spPushed_of h _), ih]

/-- In a legal state SP is in the page its mode asks for (R37). -/
theorem stackPage_of_inv {s : State} (hs : Inv s) (hE : s.fE = true) : hiByte s.sp = 0x01#8 := by
  obtain ⟨hemu, -, -⟩ := hs
  obtain ⟨-, -, hpage⟩ := hemu hE
  exact hpage

/-- `t` has the mode of `s`, and its stack is that of `s` with some bytes pushed, the first one first. -/
structure Pushed (bytes : List Byte) (s t : State) : Prop where
  fE : t.fE = s.fE
  sp : t.sp = spPushed s.fE s.sp bytes.length
  mem : t.mem = memPushed s.fE s.sp bytes s.mem

section Pulls

variable {bytes : List Byte} {s t : State} (hp : Pushed bytes s t) (hs : Inv s)
include hp hs

theorem Pushed.sp_pulled : spPulled t.fE t.sp bytes.length = s.sp := by
  obtain ⟨hE, hsp, -⟩ := hp
  have h := spPulled_spPushed (stackPage_of_inv hs) 0 bytes.length
  rw [Nat.zero_add] at h
  rw [hE, hsp, h, spPushed]

/-- The pulls give the pushed bytes, the last one first (R75, R76). -/
theorem Pushed.stackByte_eq {k : Nat} {b : Byte} (hlen : bytes.length ≤ 256) (hk : bytes.reverse[k]? = some b) :
    stackByte t (k + 1) = b := by
  obtain ⟨hE, hsp, hmem⟩ := hp
  have ⟨_, _, hm⟩ := hs
  obtain ⟨hlt, -⟩ := List.getElem?_eq_some_iff.mp hk
  rw [List.length_reverse] at hlt
  rw [List.getElem?_reverse hlt] at hk
  have hcount : bytes.length = bytes.length - 1 - k + (k + 1) := by omega
  have hslot : spPulled s.fE (spPushed s.fE s.sp bytes.length) (k + 1) = spPushed s.fE s.sp (bytes.length - 1 - k) :=
    (congrArg (fun n => spPulled s.fE (spPushed s.fE s.sp n) (k + 1)) hcount).trans
      (spPulled_spPushed (stackPage_of_inv hs) _ _)
  rw [stackByte, hE, hsp, hmem, memRead_memPushed _ _ _ hm, hslot]
  exact bytesPushed_slot hlen hk

end Pulls

end Sys2Proof.Machine
end

section
/-! What the calls and the returns do while the host only answers from its memory (45_control_flow.md R276 to R281). -/

namespace Sys2Proof.Machine

/-! ### Pushes behind other events -/

/-- `s` with some bytes pushed, the first one first (R74). -/
def afterPushes (bytes : List Byte) (s : State) : State :=
  { s with mem := memPushed s.fE s.sp bytes s.mem, sp := spPushed s.fE s.sp bytes.length }

section Pushes

variable {n : Word} {evs : List Event} {s : State}

theorem afterEvents_k : (afterEvents n evs s).k = s.k := rfl
theorem afterEvents_pc : (afterEvents n evs s).pc = s.pc + n := rfl
theorem afterEvents_spDown : spDown (afterEvents n evs s) = spPushed s.fE s.sp 1 := rfl

variable (hs : Quiet s)
include hs

theorem afterEvents_pushByte (b : Byte) :
    pushByte b (afterEvents n evs s) = afterEvents n (evs ++ [.write (bank0 s.sp) b]) (afterPushes [b] s) := by
  rw [pushByte_quiet (by exact hs)]
  simp only [afterEvents, List.append_assoc]
  rfl

theorem afterEvents_pushWord (v : Word) :
    pushWord v false (afterEvents n evs s) =
      afterEvents n (evs ++ [.write (bank0 s.sp) (hiByte v), .write (bank0 (spPushed s.fE s.sp 1)) (loByte v)])
        (afterPushes [hiByte v, loByte v] s) := by
  rw [pushWord_quiet (by exact hs)]
  simp only [afterEvents, List.append_assoc]
  rfl

/-- A word pushed with the poll between its bytes (R76). -/
theorem afterEvents_pushWord_polled (v : Word) :
    pushWord v true (afterEvents n evs s) =
      afterPoll n (evs ++ [.write (bank0 s.sp) (hiByte v), .poll (pollValue s),
        .write (bank0 (spPushed s.fE s.sp 1)) (loByte v)]) (afterPushes [hiByte v, loByte v] s) := by
  rw [pushWord_polled (by exact hs)]
  simp only [afterPoll, afterEvents, List.append_assoc]
  rfl

theorem afterEvents_fetchByte (b : Byte) :
    fetchByte b (afterEvents n evs s) = afterEvents (n + 1) (evs ++ [fetchEvent s n b]) s := by
  rw [fetchByte_quiet (by exact hs)]
  simp only [afterEvents, fetchEvent, pcAddr, List.append_assoc, BitVec.add_assoc]

end Pushes

/-! ### A byte fetched behind a push -/

section LateByte

variable {n : Word} {evs : List Event} {s : State}

/-- A late fetch does not depend on what is recorded. -/
theorem lateByte_afterEvents (written : List Addr) (b : Byte) (e : Event) :
    lateByte written b (afterEvents n (e :: evs) s) = lateByte written b (afterEvents n [] s) := rfl

variable (hs : Quiet s)
include hs

/-- The instruction's byte `b`, fetched after some pushes, is what memory then holds (R83, R103). -/
theorem lateByte_afterPushes (hm : memWf s.mem = true) {bytes : List Byte} {b : Byte}
    (hb : memRead s.mem (bankAddr s.k (s.pc + n)).toNat = b) :
    lateByte (pushSlots s.fE s.sp bytes.length) b (afterEvents n [] (afterPushes bytes s)) =
      bytesPushed s.fE s.sp bytes (memRead s.mem) (bankAddr s.k (s.pc + n)).toNat := by
  have hquiet : (tickAt (afterEvents n [] (afterPushes bytes s)) 0).answer.isNone = true := by
    rw [tickAt_quiet (by exact hs)]
    rfl
  rw [lateByte, hquiet, Bool.and_true]
  split
  · exact memRead_memPushed _ _ _ hm _
  · next hslot =>
    refine hb.symm.trans (bytesPushed_of_not_slot fun hmem => hslot ?_).symm
    exact List.contains_iff_mem.mpr hmem

end LateByte

/-! ### Calls -/

section Calls

variable {s : State} (hs : Quiet s)
include hs

/-- JSR abs (R276). -/
theorem callAbs_quiet (a : Word) :
    let ret := s.pc + 1
    callAbs a s =
      { afterPoll 2 [fetchEvent s 0 (loByte a), fetchEvent s 1 (hiByte a), .idle false,
          .write (bank0 s.sp) (hiByte ret), .poll (pollValue s), .write (bank0 (spPushed s.fE s.sp 1)) (loByte ret)]
          (afterPushes [hiByte ret, loByte ret] s) with
        pc := a } := by
  have hret : s.pc + 2 - 1 = s.pc + 1 := add_sub_assoc _ _ _
  simp only [callAbs, fetchWord_eq_afterEvents hs, afterEvents_idle hs, afterEvents_pushWord_polled hs]
  rw [← hret]
  rfl

/-- JSL (R278), given its bank byte, which it fetches after the push of K. -/
theorem callLong_quiet {l : Addr} {bank : Byte}
    (hbank : lateByte [bank0 s.sp] (addrBank l) (afterEvents 2 [] (afterPushes [s.k] s)) = bank) :
    let ret := s.pc + 2
    callLong l s =
      { afterPoll 3 [fetchEvent s 0 (loByte (addrOffset l)), fetchEvent s 1 (hiByte (addrOffset l)),
          .write (bank0 s.sp) s.k, .idle false, fetchEvent s 2 bank,
          .write (bank0 (spPushed s.fE s.sp 1)) (hiByte ret), .poll (pollValue s),
          .write (bank0 (spPushed s.fE s.sp 2)) (loByte ret)]
          (afterPushes [s.k, hiByte ret, loByte ret] s) with
        pc := addrOffset l
        k := bank } := by
  have ht : Quiet (afterPushes [s.k] s) := hs
  have hret : s.pc + 3 - 1 = s.pc + 2 := add_sub_assoc _ _ _
  simp only [callLong, fetchWord_eq_afterEvents hs, afterEvents_k, afterEvents_sp, afterEvents_pushByte hs,
    afterEvents_idle ht, List.cons_append, List.nil_append, lateByte_afterEvents, hbank, afterEvents_fetchByte ht,
    afterEvents_pushWord_polled ht]
  rw [← hret]
  rfl

/-- JSR (a,X) (R277), given its second operand byte, which it fetches after the pushes. -/
theorem callIndexed_quiet {a : Word} {high : Byte}
    (hhigh : lateByte [bank0 s.sp, bank0 (spPushed s.fE s.sp 1)] (hiByte a)
      (afterEvents 1 [] (afterPushes [hiByte (s.pc + 1), loByte (s.pc + 1)] s)) = high) :
    let ret := s.pc + 1
    let t := afterPushes [hiByte ret, loByte ret] s
    let tab := fun (n : Word) => bankAddr s.k (mkWord high (loByte a) + s.x + n)
    callIndexed a s =
      { afterPoll 2 [fetchEvent s 0 (loByte a), .write (bank0 s.sp) (hiByte ret),
          .write (bank0 (spPushed s.fE s.sp 1)) (loByte ret), fetchEvent s 1 high, .idle false, readEvent t (tab 0),
          .poll (pollValue s), readEvent t (tab 1)] t with
        pc := wordAt t.mem (tab 0) (tab 1) } := by
  have ht : Quiet (afterPushes [hiByte (s.pc + 1), loByte (s.pc + 1)] s) := hs
  simp only [callIndexed, fetchByte_eq_afterEvents hs, afterEvents_sp, afterEvents_pc, afterEvents_spDown,
    afterEvents_pushWord hs, List.cons_append, List.nil_append, lateByte_afterEvents, hhigh, afterEvents_fetchByte ht,
    afterEvents_idle ht, jumpThroughIndexed_afterEvents ht]
  rfl

end Calls

/-! ### Returns -/

/-- The `n`-th pull from here on, counted from 1 (R75). -/
def pullEvent (s : State) (n : Nat) : Event := .read (bank0 (spPulled s.fE s.sp n)) (stackByte s n)

section Returns

variable {s : State} (hs : Quiet s)
include hs

/-- The two idles and the two pulls that RTS and RTL begin with (R279, R280). -/
theorem pullWord_idle_idle :
    pullWord false (idle (idle s)) = (stackWord s, { s with
      sp := spPulled s.fE s.sp 2
      trace := s.trace ++ [.idle false, .idle false, pullEvent s 1, pullEvent s 2] }) := by
  rw [idle_quiet hs, idle_quiet (by exact hs), pullWord_quiet (by exact hs)]
  simp only [List.append_assoc]
  rfl

/-- RTS (R279). -/
theorem returnShort_quiet :
    returnShort s = { s with
      pc := stackWord s + 1
      sp := spPulled s.fE s.sp 2
      intWanted := pollValue s
      trace := s.trace ++ [.idle false, .idle false, pullEvent s 1, pullEvent s 2, .poll (pollValue s),
        .idle false] } := by
  simp only [returnShort, pullWord_idle_idle hs]
  rw [poll_eq, idle_quiet (by exact hs), List.append_assoc, List.append_assoc]
  rfl

/-- RTL (R280). -/
theorem returnLong_quiet :
    returnLong s = { s with
      pc := stackWord s + 1
      k := stackByte s 3
      sp := spPulled s.fE s.sp 3
      intWanted := pollValue s
      trace := s.trace ++ [.idle false, .idle false, pullEvent s 1, pullEvent s 2, .poll (pollValue s),
        pullEvent s 3] } := by
  simp only [returnLong, pullWord_idle_idle hs]
  rw [poll_eq, pullByte_quiet (by exact hs)]
  simp only [List.append_assoc]
  rfl

/-- RTI up to the flag byte (R281); the pull has left SP in its page, so SetFlags leaves it there. -/
theorem flagsPulled_quiet :
    flagsPulled s = { setFlags (stackByte s 1) s with
      sp := spPulled s.fE s.sp 1
      trace := s.trace ++ [.idle false, .idle false, pullEvent s 1] } := by
  have hsp := setFlags_sp_of_page
    (s := { s with sp := spPulled s.fE s.sp 1, trace := s.trace ++ [.idle false, .idle false, pullEvent s 1] })
    (fun hE => hiByte_coerceSp_of hE _) (stackByte s 1)
  rw [flagsPulled, idle_quiet hs, idle_quiet (by exact hs), pullByte_quiet (by exact hs)]
  simp only [List.append_assoc]
  exact congrArg (fun v => { setFlags (stackByte s 1) s with
    sp := v, trace := s.trace ++ [Event.idle false, .idle false, pullEvent s 1] }) hsp

/-- The poll of RTI, with the I flag of the byte pulled (R281). -/
def rtiPoll (s : State) : Bool := s.nmiWanted || (s.irqWanted && !(stackByte s 1).getLsbD 2)

/-- RTI in emulation mode (R281). -/
theorem returnFromInterrupt_emulation (hE : s.fE = true) :
    returnFromInterrupt s = { setFlags (stackByte s 1) s with
      pc := mkWord (stackByte s 3) (stackByte s 2)
      intWanted := rtiPoll s
      sp := spPulled s.fE s.sp 3
      trace := s.trace ++ [.idle false, .idle false, pullEvent s 1, pullEvent s 2, .poll (rtiPoll s),
        pullEvent s 3] } := by
  have hrti : returnFromInterrupt s =
      { (pullWord true (flagsPulled s)).2 with pc := (pullWord true (flagsPulled s)).1 } := if_pos hE
  rw [hrti, flagsPulled_quiet hs, pullWord_quiet (by exact hs)]
  simp only [List.append_assoc]
  rfl

/-- RTI in native mode, which pulls K last (R281). -/
theorem returnFromInterrupt_native (hE : s.fE = false) :
    returnFromInterrupt s = { setFlags (stackByte s 1) s with
      pc := mkWord (stackByte s 3) (stackByte s 2)
      intWanted := rtiPoll s
      sp := spPulled s.fE s.sp 4
      k := stackByte s 4
      trace := s.trace ++ [.idle false, .idle false, pullEvent s 1, pullEvent s 2, pullEvent s 3,
        .poll (rtiPoll s), pullEvent s 4] } := by
  have hrti : returnFromInterrupt s =
      (let p := pullWord false (flagsPulled s)
        let b := pullByte (poll { p.2 with pc := p.1 })
        { b.2 with k := b.1 }) := if_neg fun h => Bool.false_ne_true (hE.symm.trans h)
  rw [hrti, flagsPulled_quiet hs, pullWord_quiet (by exact hs)]
  dsimp only
  rw [poll_eq, pullByte_quiet (by exact hs)]
  simp only [List.append_assoc]
  rfl

end Returns

end Sys2Proof.Machine
end

section
/-! A call and the return from it, an exception or interrupt entry and RTI (45_control_flow.md R285, 60_exceptions.md
R319, R326): what is pushed is pulled back. -/

namespace Sys2Proof.Machine

/-! ### Returns after calls -/

/-- The word the pulls give is the word pushed last (R76, R77). -/
theorem Pushed.stackWord_eq {front : List Byte} {ret : Word} {s t : State}
    (hp : Pushed (front ++ [hiByte ret, loByte ret]) s t) (hs : Inv s) (hlen : front.length ≤ 254) :
    stackWord t = ret := by
  have hlen' : (front ++ [hiByte ret, loByte ret]).length ≤ 256 := by
    rw [List.length_append]
    exact Nat.add_le_add_right hlen 2
  have hlo : stackByte t 1 = loByte ret := hp.stackByte_eq hs hlen' (by rw [List.reverse_append]; rfl)
  have hhi : stackByte t 2 = hiByte ret := hp.stackByte_eq hs hlen' (by rw [List.reverse_append]; rfl)
  rw [stackWord, hlo, hhi, mkWord_hi_lo]

section Returns

variable {s t : State} {ret behind : Word} (hs : Inv s) (ht : Quiet t) (hbehind : ret + 1 = behind)
include hs ht hbehind

/-- RTS after a push of its return word (R279). -/
theorem rts_after_push (hp : Pushed [hiByte ret, loByte ret] s t) (hk : t.k = s.k) :
    ∃ u, exec .rts t = .next u ∧ u.pc = behind ∧ u.k = s.k ∧ u.sp = s.sp :=
  ⟨_, congrArg Host.Outcome.next (returnShort_quiet ht),
    (congrArg (· + 1) (hp.stackWord_eq (front := []) hs (Nat.zero_le _))).trans hbehind, hk, hp.sp_pulled hs⟩

/-- RTL after a push of K and its return word (R280). -/
theorem rtl_after_push (hp : Pushed [s.k, hiByte ret, loByte ret] s t) :
    ∃ u, exec .rtl t = .next u ∧ u.pc = behind ∧ u.k = s.k ∧ u.sp = s.sp :=
  ⟨_, congrArg Host.Outcome.next (returnLong_quiet ht),
    (congrArg (· + 1) (hp.stackWord_eq (front := [s.k]) hs (by simp))).trans hbehind,
    hp.stackByte_eq hs (by simp) rfl, hp.sp_pulled hs⟩

end Returns

section Calls

variable {s : State} (hs : Quiet s)
include hs

theorem callAbs_pushed (a : Word) :
    Quiet (callAbs a s) ∧ Pushed [hiByte (s.pc + 1), loByte (s.pc + 1)] s (callAbs a s) ∧ (callAbs a s).k = s.k := by
  rw [callAbs_quiet hs]
  exact ⟨hs, ⟨rfl, rfl, rfl⟩, rfl⟩

/-- Whatever byte the late fetch gives (R277). -/
theorem callIndexed_pushed (a : Word) :
    Quiet (callIndexed a s) ∧ Pushed [hiByte (s.pc + 1), loByte (s.pc + 1)] s (callIndexed a s) ∧
      (callIndexed a s).k = s.k := by
  rw [callIndexed_quiet hs rfl]
  exact ⟨hs, ⟨rfl, rfl, rfl⟩, rfl⟩

/-- Whatever byte the late fetch gives (R278). -/
theorem callLong_pushed (l : Addr) :
    Quiet (callLong l s) ∧ Pushed [s.k, hiByte (s.pc + 2), loByte (s.pc + 2)] s (callLong l s) := by
  rw [callLong_quiet hs rfl]
  exact ⟨hs, ⟨rfl, rfl, rfl⟩⟩

end Calls

/-! ### RTI after an entry -/

/-- `t` is `s` with an exception or interrupt taken (R324): the frame pushed, K cleared, and what RTI does not restore
as it was. -/
structure Entered (pc : Word) (flags : Byte) (s t : State) : Prop where
  quiet : Quiet t
  frame : Pushed (frameBytes s pc flags) s t
  k : t.k = 0x00#8
  a : t.a = s.a
  x : t.x = s.x
  y : t.y = s.y
  dp : t.dp = s.dp
  db : t.db = s.db

/-- BRK and COP (R284). -/
theorem softInt_entered {s : State} (hs : Quiet s) (ev : VectorEvent) (sig : Byte) :
    Entered (s.pc + 1) (getFlags s) s (softInt ev sig s) := by
  rw [softInt_quiet hs]
  exact ⟨hs, ⟨rfl, rfl, rfl⟩, rfl, rfl, rfl, rfl, rfl, rfl⟩

/-- The step that takes an interrupt (R321, R322). -/
theorem step_entered {s : State} (hs : Quiet s) (hrun : Running s) (hdue : interruptDue s = true) :
    ∃ t, step s = .next t ∧ Entered s.pc (interruptFlags s) s t := by
  have hpoll : (startPoll { s with trace := [] }).intWanted = true := by
    rw [startPoll, pollIf_eq]
    exact hdue
  rw [step_of_running hrun, serviceOrRun, if_pos hpoll]
  refine ⟨_, rfl, ?_⟩
  rw [startPoll, pollIf_eq, busRead_quiet (by exact hs), doInterrupt_quiet (by exact hs)]
  exact ⟨hs, ⟨rfl, rfl, rfl⟩, rfl, rfl, rfl, rfl, rfl, rfl⟩

/-! #### The flag byte of a frame -/

/-- The bits of M and flag X are pinned in emulation mode, so bit 4 of the byte pushed does not matter (R41, R322). -/
theorem or_pinned {f : Byte} (h5 : f.getLsbD 5 = true) (h4 : f.getLsbD 4 = true) :
    f ||| 0x30#8 = f ∧ f &&& 0xEF#8 ||| 0x30#8 = f := by
  constructor <;>
  · refine BitVec.eq_of_getLsbD_eq fun i hi => ?_
    interval_cases i <;> simp [h5, h4]

/-- SetFlags with the byte an instruction or an interrupt pushes gives back the flags it was made of. -/
theorem getFlags_setFlags_pushed {s : State} (hs : Inv s) :
    getFlags (setFlags (getFlags s) s) = getFlags s ∧ getFlags (setFlags (interruptFlags s) s) = getFlags s := by
  rw [getFlags_setFlags, getFlags_setFlags, interruptFlags]
  obtain ⟨-, -, h5, h4, -, -, -, -⟩ := getLsbD_getFlags s
  cases hE : s.fE with
  | false => exact ⟨rfl, rfl⟩
  | true =>
    obtain ⟨hemu, -, -⟩ := hs
    obtain ⟨hM, hX, -⟩ := hemu hE
    exact or_pinned (h5.trans hM) (h4.trans hX)

/-- With the flags restored, X and Y are within their width again (R38). -/
theorem maskW_restored {s : State} {flags : Byte} (hs : IndexInv s)
    (hflags : getFlags (setFlags flags s) = getFlags s) :
    maskW (s.fE || flags.getLsbD 4) s.x = s.x ∧ maskW (s.fE || flags.getLsbD 4) s.y = s.y := by
  obtain ⟨-, -, -, hset, -, -, -, -⟩ := getLsbD_getFlags (setFlags flags s)
  obtain ⟨-, -, -, hget, -, -, -, -⟩ := getLsbD_getFlags s
  have hX : (s.fE || flags.getLsbD 4) = s.fX := by rw [← setFlags_fX, ← hset, hflags, hget]
  rw [hX]
  exact ⟨maskW_of_hiByte fun h => (hs h).1, maskW_of_hiByte fun h => (hs h).2⟩

section Resume

variable {s t : State} {pc : Word} {flags : Byte} (h : Entered pc flags s t) (hs : Inv s)
include h hs

/-- The bytes the pulls of RTI give after an entry; the fourth is pulled in native mode only. -/
theorem Entered.pulls :
    stackByte t 1 = flags ∧ mkWord (stackByte t 3) (stackByte t 2) = pc ∧ (s.fE = false → stackByte t 4 = s.k) := by
  have hframe := h.frame
  have hlen : (frameBytes s pc flags).length ≤ 256 := by
    cases hE : s.fE <;> simp [frameBytes, hE]
  have hbyte {k : Nat} {b : Byte} := hframe.stackByte_eq hs hlen (k := k) (b := b)
  rw [frameBytes, List.reverse_append] at hbyte
  have hflags : stackByte t 1 = flags := hbyte rfl
  have hlo : stackByte t 2 = loByte pc := hbyte rfl
  have hhi : stackByte t 3 = hiByte pc := hbyte rfl
  refine ⟨hflags, by rw [hhi, hlo, mkWord_hi_lo], fun hE => hbyte ?_⟩
  rw [hE]
  rfl

variable (hflags : getFlags (setFlags flags s) = getFlags s)
include hflags

/-- What SetFlags with the pushed byte restores after an entry. -/
theorem Entered.debugState_setFlags :
    debugState (setFlags flags t) =
      { debugState s with sp := (setFlags flags t).sp, pc := t.pc, k := 0x00#8 } := by
  have hE := h.frame.fE
  obtain ⟨-, hidx, -⟩ := hs
  obtain ⟨hX, hY⟩ := maskW_restored hidx hflags
  have hp : getFlags (setFlags flags t) = getFlags s := by
    rw [getFlags_setFlags, hE, ← getFlags_setFlags flags s, hflags]
  simp only [debugState, hp, setFlags_a, setFlags_x, setFlags_y, setFlags_pc, setFlags_dp, setFlags_k, setFlags_db,
    setFlags_fE, hE, h.k, h.a, h.x, h.y, h.dp, h.db, hX, hY]

/-- RTI right after an entry is back at the pushed PC; K is not in the frame of emulation mode (R281, R324). -/
theorem Entered.rti :
    ∃ u, exec .rti t = .next u ∧
      debugState u = { debugState s with pc := pc, k := if s.fE then 0x00#8 else s.k } := by
  obtain ⟨hpulled, hpc, hbank⟩ := h.pulls hs
  have hrestored := h.debugState_setFlags hs hflags
  have hsp := h.frame.sp_pulled hs
  have hEt := h.frame.fE
  rw [frameBytes] at hsp
  cases hE : s.fE with
  | true =>
    rw [hE] at hsp
    refine ⟨_, congrArg Host.Outcome.next (returnFromInterrupt_emulation h.quiet (hEt.trans hE)), ?_⟩
    rw [hpulled, hpc, show spPulled t.fE t.sp 3 = s.sp from hsp]
    exact congrArg (fun d => { d with sp := s.sp, pc := pc }) hrestored
  | false =>
    rw [hE] at hsp
    refine ⟨_, congrArg Host.Outcome.next (returnFromInterrupt_native h.quiet (hEt.trans hE)), ?_⟩
    rw [hpulled, hpc, hbank hE, show spPulled t.fE t.sp 4 = s.sp from hsp]
    exact congrArg (fun d => { d with sp := s.sp, pc := pc, k := s.k }) hrestored

end Resume

end Sys2Proof.Machine
end

section
/-! The branches, jumps, calls, returns and software interrupts (45_control_flow.md R260 to R285), and coming back from
them and from an interrupt (60_exceptions.md R319, R326). The namespace keeps `callIndexed` and `returnFromInterrupt`
apart from the functions of these names. -/

namespace Sys2Proof.Machine.ControlFlow

/-- Settles O48: `exec_branchIf` for each condition and the flag value it asks for; BRL is `branchLong_quiet`. -/
theorem branches : Obligations.Branches := by
  refine ⟨fun _ _ _ => ⟨rfl, rfl, rfl, rfl, rfl, rfl, rfl, rfl, rfl, rfl⟩, fun s d l hs => ⟨?_, ?_⟩⟩
  · simp only [List.forall_mem_cons]
    have hflag (f : Bool) : f = false ↔ (!f) = true := by simp only [Bool.not_eq_true']
    exact ⟨exec_branchIf hs (hflag _) rfl, exec_branchIf hs .rfl rfl, exec_branchIf hs (hflag _) rfl,
      exec_branchIf hs .rfl rfl, exec_branchIf hs (hflag _) rfl, exec_branchIf hs .rfl rfl,
      exec_branchIf hs (hflag _) rfl, exec_branchIf hs .rfl rfl,
      exec_branchIf hs (cond := true) ⟨fun _ => rfl, fun _ => trivial⟩ rfl, List.forall_mem_nil _⟩
  · rw [ofInt_branchTarget]
    exact congrArg Host.Outcome.next (branchLong_quiet hs l)

/-- Settles O49: each jump's own lemma; the pointer of JMP (a) by `jumpPointerHi_eq`. -/
theorem jumps : Obligations.Jumps := by
  refine ⟨fun _ _ _ => ⟨rfl, rfl, rfl, rfl, rfl⟩, fun s a l hs => ?_⟩
  have hind := jumpInd_quiet hs a
  rw [jumpPointerHi_eq] at hind
  exact ⟨congrArg Host.Outcome.next (jumpAbs_quiet hs a), congrArg Host.Outcome.next (jumpLong_quiet hs l),
    congrArg Host.Outcome.next hind, congrArg Host.Outcome.next (jumpIndexed_quiet hs a),
    congrArg Host.Outcome.next (jumpIndLong_quiet hs a)⟩

/-- Settles O50: the bank byte of JSL is what memory holds after the push of K (`lateByte_afterPushes`). -/
theorem calls : Obligations.Calls := by
  refine ⟨fun _ _ _ => ⟨rfl, rfl⟩, fun s a l hs hm hbank => ?_⟩
  have hlate := lateByte_afterPushes hs hm (bytes := [s.k]) hbank
  exact ⟨⟨_, congrArg Host.Outcome.next (callAbs_quiet hs a), memRead_memPushed s.fE s.sp _ hm⟩,
    ⟨_, congrArg Host.Outcome.next (callLong_quiet hs hlate), memRead_memPushed s.fE s.sp _ hm⟩⟩

/-- Settles O51: as O50, for the second operand byte behind the pushed return word. -/
theorem callIndexed : Obligations.CallIndexed := by
  refine ⟨fun _ _ _ => rfl, fun s a hs hm hhigh => ?_⟩
  have hbytes := funext (memRead_memPushed s.fE s.sp [hiByte (s.pc + 1), loByte (s.pc + 1)] hm)
  have hlate := lateByte_afterPushes hs hm (bytes := [hiByte (s.pc + 1), loByte (s.pc + 1)]) hhigh
  simp only [← hbytes] at hlate ⊢
  exact ⟨_, congrArg Host.Outcome.next (callIndexed_quiet hs hlate), fun _ => rfl⟩

/-- Settles O52: `returnShort_quiet` and `returnLong_quiet`. -/
theorem returns : Obligations.Returns :=
  ⟨fun _ _ _ => ⟨rfl, rfl⟩, fun _ hs =>
    ⟨congrArg Host.Outcome.next (returnShort_quiet hs), congrArg Host.Outcome.next (returnLong_quiet hs)⟩⟩

/-- Settles O53, by the mode E selects. The invariant is not needed: the pull of the flag byte puts SP into its page. -/
theorem returnFromInterrupt : Obligations.ReturnFromInterrupt := by
  refine ⟨fun _ _ _ => rfl, fun s hs _ => ⟨fun hE => ?_, fun hE => ?_⟩⟩
  · have h := returnFromInterrupt_emulation hs hE
    rw [hE] at h
    exact congrArg Host.Outcome.next h
  · have h := returnFromInterrupt_native hs hE
    rw [hE] at h
    exact congrArg Host.Outcome.next h

/-- Settles O54: `softInt_quiet` for the two events, with the pushed memory read byte by byte. -/
theorem softwareInterrupts : Obligations.SoftwareInterrupts := by
  refine ⟨fun _ _ _ => ⟨rfl, rfl⟩, fun s sig hs hm => ?_⟩
  have hbytes := funext (memRead_memPushed s.fE s.sp (frameBytes s (s.pc + 1) (getFlags s)) hm)
  have hsoft ev := softInt_quiet hs ev sig
  simp only [← hbytes, List.forall_mem_cons, fetchEvent_zero, List.append_assoc, List.cons_append, List.nil_append]
    at hsoft ⊢
  exact ⟨⟨_, congrArg Host.Outcome.next (hsoft .brk), fun _ => rfl⟩,
    ⟨_, congrArg Host.Outcome.next (hsoft .cop), fun _ => rfl⟩, List.forall_mem_nil _⟩

/-- Settles O57: each call has pushed the return word that its return pulls (`rts_after_push`, `rtl_after_push`). -/
theorem callReturn : Obligations.CallReturn := by
  intro s a l hs hinv
  have hshort : s.pc + 1 + 1 = s.pc + 2 := add_one_one s.pc
  have hlong : s.pc + 2 + 1 = s.pc + 3 := add_two_one s.pc
  obtain ⟨hquiet, hpushed, hk⟩ := callAbs_pushed hs a
  obtain ⟨hquiet', hpushed', hk'⟩ := callIndexed_pushed hs a
  obtain ⟨hquietL, hpushedL⟩ := callLong_pushed hs l
  simp only [List.forall_mem_cons]
  exact ⟨⟨_, (rts_after_push hinv hquiet hshort hpushed hk).imp fun _ h => ⟨rfl, h⟩⟩,
    ⟨_, (rts_after_push hinv hquiet' hshort hpushed' hk').imp fun _ h => ⟨rfl, h⟩⟩,
    ⟨_, (rtl_after_push hinv hquietL hlong hpushedL).imp fun _ h => ⟨rfl, h⟩⟩, List.forall_mem_nil _⟩

/-- Settles O58: BRK and COP enter with the flag byte as it is, and `Entered.rti` undoes an entry. -/
theorem exceptionReturn : Obligations.ExceptionReturn := by
  intro s sig hs hinv
  obtain ⟨hflags, -⟩ := getFlags_setFlags_pushed hinv
  have back ev := (softInt_entered hs ev sig).rti hinv hflags
  simp only [List.forall_mem_cons]
  exact ⟨⟨_, (back .brk).imp fun _ h => ⟨rfl, h⟩⟩, ⟨_, (back .cop).imp fun _ h => ⟨rfl, h⟩⟩, List.forall_mem_nil _⟩

/-- Settles O60: as O58; bit 4, clear in the byte pushed in emulation mode, is that of flag X, which is pinned there. -/
theorem interruptResume : Obligations.InterruptResume := by
  intro s hs hrun hinv hdue
  obtain ⟨-, hflags⟩ := getFlags_setFlags_pushed hinv
  obtain ⟨t, hstep, hentered⟩ := step_entered hs hrun hdue
  exact ⟨t, (hentered.rti hinv hflags).imp fun _ h => ⟨hstep, h⟩⟩

end Sys2Proof.Machine.ControlFlow
end

section
/-! MVN, MVP, WAI and STP (46_block_wait.md R300 to R304): what each gives while the host only answers from its
memory. -/

namespace Sys2Proof.Machine

/-! ### The block moves -/

/-- An index register moved by a displacement, as a number modulo the width's modulus (R304). -/
theorem maskW_add_eq_ofNat (w8 : Bool) (v d : Word) :
    maskW w8 (v + d) = BitVec.ofNat 16 ((v.toNat + d.toNat) % (maskNat w8 + 1)) := by
  rw [BitVec.add_def, maskW_ofNat]

/-- A counts down past 0 with the last byte; before that, PC goes back over the three bytes of the instruction, of which
two are its operands (R304). -/
theorem blockPc_eq (a pc : Word) :
    (if a - 1 = 0xFFFF#16 then pc + 1 + 1 else pc + 1 + 1 - 3) = if a = 0 then pc + 2 else pc - 1 := by
  have hlast : a - 1 = 0xFFFF#16 ↔ a = 0 := by bv_omega
  have hback : pc + 2 - 3 = pc - 1 := by bv_omega
  simp only [hlast, add_one_one, hback]

/-- `s` after one `BlockStep` that moves the index registers by `n` (R304), but for the byte it has stored. -/
def afterBlockStep (n : Nat) (dst src : Byte) (s : State) : State :=
  let b := memRead s.mem (bankAddr src s.x).toNat
  let moved := fun (v : Word) => BitVec.ofNat 16 ((v.toNat + n) % (maskNat s.fX + 1))
  { s with
    db := dst
    a := s.a - 1
    x := moved s.x
    y := moved s.y
    pc := if s.a = 0 then s.pc + 2 else s.pc - 1
    intWanted := pollValue s
    trace := s.trace ++ [fetchEvent s 0 dst, fetchEvent s 1 src, .read (bankAddr src s.x) b,
      .write (bankAddr dst s.y) b, .idle false, .poll (pollValue s), .idle false] }

theorem blockStep_quiet {s : State} (hs : Quiet s) (delta : Word) (dst src : Byte) :
    blockStep delta dst src s = { afterBlockStep delta.toNat dst src s with
      mem := memWrite s.mem (bankAddr dst s.y).toNat (memRead s.mem (bankAddr src s.x).toNat) } := by
  rw [blockStep, fetchByte_quiet hs, fetchByte_quiet (by exact hs), busRead_quiet (by exact hs)]
  dsimp only
  rw [busWrite_quiet (by exact hs), idle_poll_idle_quiet (by exact hs)]
  simp only [afterBlockStep, blockPc_eq, maskW_add_eq_ofNat, fetchEvent_zero, List.append_assoc, List.cons_append,
    List.nil_append]
  rfl

/-- An instruction that is one `BlockStep`, with its one write read back byte by byte (R65). -/
theorem exec_blockStep {i : Instr} {delta : Word} {dst src : Byte} {s : State} (hs : Quiet s)
    (hm : memWf s.mem = true) (hexec : exec i s = .next (blockStep delta dst src s)) :
    AnswersStoring (exec i s) (afterBlockStep delta.toNat dst src s) fun a =>
      if a = (bankAddr dst s.y).toNat then memRead s.mem (bankAddr src s.x).toNat else memRead s.mem a :=
  ⟨_, hexec.trans (congrArg Host.Outcome.next (blockStep_quiet hs delta dst src)), memRead_memWrite hm _ _⟩

/-- Settles O55: `exec_blockStep` with the displacement 1, and with −1, which is $FFFF in sixteen bits. -/
theorem blockMoves : Obligations.BlockMoves := by
  refine ⟨fun _ _ _ => ⟨rfl, rfl⟩, fun s dst src hs hm => ?_⟩
  simp only [List.forall_mem_cons]
  exact ⟨exec_blockStep (delta := 1) hs hm rfl, exec_blockStep (delta := -1) hs hm rfl, List.forall_mem_nil _⟩

/-! ### WAI and STP -/

/-- Two idles without a poll between them (R302, R303). -/
theorem idle_idle_quiet {s : State} (hs : Quiet s) :
    idle (idle s) = { s with trace := s.trace ++ [.idle false, .idle false] } := by
  rw [idle_quiet hs, idle_quiet (by exact hs), List.append_assoc]
  rfl

/-- Settles O56: each sets its latch and idles twice (`idle_idle_quiet`). -/
theorem waitAndStop : Obligations.WaitAndStop :=
  ⟨fun _ _ _ => ⟨rfl, rfl⟩, fun s hs =>
    ⟨congrArg Host.Outcome.next (idle_idle_quiet (s := { s with waiting := true }) hs),
      congrArg Host.Outcome.next (idle_idle_quiet (s := { s with stopped := true }) hs)⟩⟩

end Sys2Proof.Machine
end

section
/-! The steps that run no instruction (60_exceptions.md R318 to R323; 70_reset_and_hazards.md R350 to R354): the reset
request and its sequence, the parked gates, and a hardware interrupt's entry. -/

namespace Sys2Proof.Machine

/-! ### The reset sequence -/

/-- SetFlags with the state's own flag byte in emulation mode (R41): M, flag X and the page of SP are pinned, and the
upper bytes of X and Y are cleared. -/
theorem setFlags_getFlags_emulation {s : State} (hE : s.fE = true) :
    setFlags (getFlags s) s = { s with
      fM := true, fX := true, sp := pageOne s.sp, x := zextByte (loByte s.x), y := zextByte (loByte s.y) } := by
  obtain ⟨h7, h6, -, -, h3, h2, h1, h0⟩ := getLsbD_getFlags s
  simp only [setFlags, h7, h6, h3, h2, h1, h0, hE, Bool.true_or, if_true, maskW_true]

theorem pageOne_pageOne (v : Word) : pageOne (pageOne v) = pageOne v := pageOne_of_hiByte (hiByte_pageOne v)

theorem sub_one_one (w : Word) : w - 1 - 1 = w - 2 := by bv_omega

theorem sub_two_one (w : Word) : w - 2 - 1 = w - 3 := by bv_omega

/-- The `n`-th dummy stack read of the reset sequence, counted from 0 (R352, D3). -/
def resetStackRead (s : State) (n : Word) : Event :=
  .read (bank0 (pageOne (s.sp - n))) (memRead s.mem (bank0 (pageOne (s.sp - n))).toNat)

theorem dummyStackRead_quiet {s : State} (hs : Quiet s) :
    dummyStackRead s = { s with sp := s.sp - 1, trace := s.trace ++ [resetStackRead s 0] } := by
  rw [dummyStackRead, busRead_quiet hs, resetStackRead, sub_zero]

/-- The three dummy stack reads go down one address at a time inside page $01 (R352). -/
theorem dummyStackReads_quiet {s : State} (hs : Quiet s) :
    dummyStackRead (dummyStackRead (dummyStackRead s)) = { s with
      sp := s.sp - 3
      trace := s.trace ++ [resetStackRead s 0, resetStackRead s 1, resetStackRead s 2] } := by
  simp only [Quiet, dummyStackRead_quiet, hs, resetStackRead, sub_zero, sub_one_one, sub_two_one, List.append_assoc,
    List.cons_append, List.nil_append]

/-- The reset sequence (R352), which makes seven bus cycles and writes nothing to memory. -/
theorem resetSequence_quiet {s : State} (hs : Quiet s) :
    resetSequence s = { s with
      x := zextByte (loByte s.x)
      y := zextByte (loByte s.y)
      sp := pageOne (s.sp - 3)
      pc := wordAt s.mem 0x00FFFC 0x00FFFD
      k := 0
      fM := true, fX := true, fD := false, fI := true, fE := true
      resetWanted := false
      trace := s.trace ++ [.read (pcAddr s) (memRead s.mem (pcAddr s).toNat), .idle false, resetStackRead s 0,
        resetStackRead s 1, resetStackRead s 2, .read 0x00FFFC (memRead s.mem 0x00FFFC),
        .read 0x00FFFD (memRead s.mem 0x00FFFD)] } := by
  rw [resetSequence, busRead_quiet hs, idle_quiet (by exact hs), dummyStackReads_quiet (by exact hs)]
  dsimp only
  rw [setFlags_getFlags_emulation rfl, loadVector_quiet (by exact hs)]
  simp only [pageOne_pageOne, pollEvents, resetStackRead, vectorOf, List.append_assoc, List.cons_append,
    List.nil_append]
  rfl

/-- Settles O10, by the definition of the request. -/
theorem resetRequest : Obligations.ResetRequest := fun _ => ⟨rfl, rfl⟩

/-- Settles O11: the step is the reset sequence at the state the request leaves, where a hard one has zeroed SP and the
address of the dummy read. -/
theorem resetValues : Obligations.ResetValues := by
  intro s hs
  constructor
  · rw [step_of_resetWanted rfl, resetSequence_quiet (by exact hs)]
    simp only [hostReset, if_true, zeroCore, resetStackRead, pcAddr]
    rfl
  · rw [step_of_resetWanted rfl, resetSequence_quiet (by exact hs)]
    rfl

/-- Settles O12: O11 for a hard reset of `State.reset`, whose empty memory gives the vector $0000. -/
theorem Reset.powerOn : Obligations.PowerOn := by
  obtain ⟨hhard, -⟩ := resetValues State.reset rfl
  exact ⟨rfl, _, hhard⟩

/-! ### The parked gates -/

/-- One step of a waiting core (R320). -/
theorem waitingTick_quiet {s : State} (hs : Quiet s) :
    waitingTick s = if s.irqWanted || s.nmiWanted then
      { s with
        waiting := false
        intWanted := pollValue s
        trace := s.trace ++ [.idle false, .poll (pollValue s), .idle false] }
    else { s with trace := s.trace ++ [.idle true] } := by
  rw [waitingTick, idle_poll_idle_quiet (by exact hs), idleWait_quiet hs]
  rfl

/-- Settles O9: the stopped gate comes before the waiting one (R317), and each is the tick of its own gate. -/
theorem parkedGates : Obligations.ParkedGates := by
  intro s hs hreset
  constructor
  · intro hstopped
    rw [step_of_stopped hreset hstopped, idleWait_quiet (by exact hs)]
    rfl
  · intro hstopped hwaiting
    rw [step_of_waiting hreset hstopped hwaiting, waitingTick_quiet (by exact hs)]
    rfl

/-! ### A hardware interrupt's entry -/

/-- The start poll, if there is one, gives what `interruptDue` asks for; without it the last poll stands (R321). -/
theorem startPoll_eq (s : State) :
    startPoll { s with trace := [] } = { s with
      intWanted := interruptDue s
      trace := if s.stepStartPoll then [.poll (interruptDue s)] else [] } := by
  rw [startPoll, pollIf_eq, pollEvents, interruptDue]
  cases s.stepStartPoll <;> rfl

/-- The vector of a hardware interrupt's entry (R79, R323). -/
theorem vectorOf_nmi_or_irq (isNmi e : Bool) :
    vectorOf (if isNmi then .nmi else .irq) e =
      if isNmi then (if e then 0xFFFA#16 else 0xFFEA#16) else if e then 0xFFFE#16 else 0xFFEE#16 := by
  cases isNmi <;> rfl

/-- The step that takes an interrupt is the entry behind the dummy read, which is the first of its bus transactions
(R321, R322). -/
theorem step_of_due {s : State} (hrun : Running s) (hdue : interruptDue s = true) :
    step s = .next (doInterrupt (afterTicks 1 s { s with
      intWanted := true
      trace := (if s.stepStartPoll then [.poll true] else []) ++
        [.read (pcAddr s) (answered s 0 (memRead s.mem (pcAddr s).toNat))] })) := by
  have start := congrArg (fun t : State => { t with
    intWanted := true, trace := if s.stepStartPoll then [.poll true] else [] }) (afterTicks_zero s)
  have dummy := congrArg Prod.snd (busRead_afterTicks 0 s { s with
    intWanted := true, trace := if s.stepStartPoll then [.poll true] else [] } (pcAddr s))
  rw [step_of_running hrun, startPoll_eq, hdue, serviceOrRun, if_pos rfl, ← start]
  exact congrArg (fun t => Host.Outcome.next (doInterrupt t)) dummy

/-- The state after the step that takes an interrupt (R322, R323): the vector is chosen `n` bus transactions after the
step began, which are the dummy read, the idle and the pushes. -/
theorem step_interruptEntry {s : State} (hrun : Running s) (hdue : interruptDue s = true) {frame : List Byte}
    (hframe : frame = frameBytes s s.pc (interruptFlags s)) {n : Nat} (hn : n = frame.length + 2) :
    let m := memPushed s.fE s.sp frame s.mem
    let v := vectorOf (if nmiAfter s n then .nmi else .irq) s.fE
    let lo := answered s n (memRead m (bank0 v).toNat)
    let hi := answered s (n + 1) (memRead m (bank0 (v + 1)).toNat)
    step s = .next { s with
      mem := m
      sp := spPushed s.fE s.sp frame.length
      fI := true
      fD := false
      k := 0x00#8
      pc := mkWord hi lo
      intWanted := false
      nmiWanted := if nmiAfter s n then false else nmiAfter s (n + 2)
      irqWanted := irqAfter s (n + 2)
      hostTicks := s.hostTicks.drop (n + 2)
      trace := (if s.stepStartPoll then [.poll true] else []) ++
        [.read (pcAddr s) (answered s 0 (memRead s.mem (pcAddr s).toNat)), .idle false] ++
        pushEvents s.fE s.sp frame ++ [.read (bank0 v) lo, .read (bank0 (v + 1)) hi] } := by
  have hn' : n = 1 + 1 + frame.length := hn.trans (Nat.add_comm _ _)
  have hnmi (b c : Bool) : (if b then false else c) = (c && !b) := by cases b <;> simp
  simp only [hnmi, List.append_assoc, List.cons_append, List.nil_append]
  subst hn' hframe
  rw [step_of_due hrun hdue, doInterrupt_afterTicks]
  simp only [afterTicks, List.append_assoc, List.cons_append, List.nil_append]
  rfl

/-- Settles O8: `step_interruptEntry`, with the pushed memory read byte by byte. -/
theorem interruptEntry : Obligations.InterruptEntry := by
  intro s hrun hm hdue
  have hbytes := funext (memRead_memPushed s.fE s.sp (frameBytes s s.pc (interruptFlags s)) hm)
  have entry := step_interruptEntry hrun hdue rfl rfl
  simp only [hbytes, vectorOf_nmi_or_irq] at entry
  exact ⟨_, entry, congrFun hbytes⟩

end Sys2Proof.Machine
end
